-- ==== Sys2Proof/Word.lean ====
section
/-! DEFINITION. The value types of the notation (spec/00_scope.md R11): bytes, 32-bit words, channel numbers, all unsigned,
bit 0 the least significant. -/

namespace Sys2Proof

/-- A byte: 8 bits (R11). -/
abbrev Byte := BitVec 8

/-- A register or bus datum, and a bus address: 32 bits (R11, R70). -/
abbrev Word := BitVec 32

/-- A stimulus channel number: 5 bits are enough (spec/10_state.md R27, spec/30_encoding.md R121). -/
abbrev Chan := BitVec 5

/-- `{b3, b2, b1, b0}` of R11: four bytes as one word, `b3` in bits 31:24 and `b0` in bits 7:0. -/
def concatBytes (b3 b2 b1 b0 : Byte) : Word := b3 ++ b2 ++ b1 ++ b0

end Sys2Proof
end

