-- ==== Sys2Proof/Machine/Target.lean ====
section
/-! DEFINITION. The plain data of the target (spec/10_state.md sections 3 and 4) and of the bus: the names of the registers,
the ten storage registers, the lock flags, bus transactions, and the environment's choices. -/

namespace Sys2Proof.Machine

/-- The three protected blocks (spec/00_scope.md glossary, "Protected block"). -/
inductive Block where
  /-- The trace formatter. -/
  | fmt
  /-- The sync source. -/
  | sync
  /-- The instrumentation unit. -/
  | itm
  deriving DecidableEq, Repr, Inhabited

/-- The ten storage registers (R50). -/
inductive StorageReg where
  | dbgen
  | fmtWidth
  | fmtDiv
  | fmtMode
  | fmtFrame
  | syncCtrl
  | itmPriv
  | itmCtrl
  | itmChen
  | dbgctl
  deriving DecidableEq, Repr, Inhabited

/-- What a bus address can reach (R76): a storage register, a block's unlock register, a channel's stimulus port. -/
inductive BusReg where
  | storage (r : StorageReg)
  | unlock (b : Block)
  | port (ch : Chan)
  deriving DecidableEq, Repr, Inhabited

/-- The values of the ten storage registers, all 32 bits stored (R50). -/
structure TargetRegs where
  dbgen : Word
  fmtWidth : Word
  fmtDiv : Word
  fmtMode : Word
  fmtFrame : Word
  syncCtrl : Word
  itmPriv : Word
  itmCtrl : Word
  itmChen : Word
  dbgctl : Word
  deriving DecidableEq, Repr, Inhabited

/-- The hidden lock flags LOCKED_FMT, LOCKED_SYNC, LOCKED_ITM (R51 to R53); true is 1, locked. -/
structure LockFlags where
  fmt : Bool
  sync : Bool
  itm : Bool
  deriving DecidableEq, Repr, Inhabited

/-- The target as a fresh launch finds it (spec/70_reset_and_hazards.md R261): registers, lock flags, FIFO contents. -/
structure Launch where
  regs : TargetRegs
  locks : LockFlags
  fifo : Vector (List Word) 32
  deriving DecidableEq, Repr, Inhabited

/-- The direction of a bus transaction (spec/30_encoding.md R126). -/
inductive Dir where
  | rd
  | wr
  deriving DecidableEq, Repr

/-- A bus transaction as TRACE records it (R126): direction, 32-bit address, 32-bit datum. -/
structure BusTxn where
  dir : Dir
  addr : Word
  data : Word
  deriving DecidableEq, Repr

/-- What the environment lets happen next (spec/00_scope.md R7, spec/20_memory.md R92, R260): the controller or the driver
takes its step, the drain takes the oldest word of a channel's FIFO, or the external reset arrives. -/
inductive EnvAction where
  | proceed
  | drain (ch : Chan)
  | reset
  deriving DecidableEq, Repr, Inhabited

end Sys2Proof.Machine
end

