-- ==== Sys2Proof/Config.lean ====
section
/-! DEFINITION. The configuration record Cfg (spec/00_scope.md R8), the reference instantiation P_REF (R10), and the free
values: what no rule constrains, as opaque constants that no proof can evaluate. -/

namespace Sys2Proof

/-- The configuration record of R8, in the order of its table. PAYLOAD, a function from byte to byte, is its table of 256
values (notes/assumptions/15.md). The constraints of R9 are `Cfg.ok` (Machine/AddressMap.lean). -/
structure Cfg where
  /-- A_DBGEN, the core debug-enable register. -/
  aDbgen : Word
  /-- DBGEN_TRACE_MASK, the global trace-enable bit. -/
  dbgenTraceMask : Word
  /-- A_FMT_LOCK, the formatter's unlock register. -/
  aFmtLock : Word
  /-- A_FMT_WIDTH, the formatter's encoding-width register. -/
  aFmtWidth : Word
  /-- FMT_WIDTH_1BIT, the value selecting a 1-bit encoding width. -/
  fmtWidth1Bit : Word
  /-- A_FMT_DIV, the formatter's divisor register. -/
  aFmtDiv : Word
  /-- A_FMT_MODE, the formatter's port-mode register. -/
  aFmtMode : Word
  /-- FMT_MODE_VALUE, the asynchronous/Manchester port-width selector. -/
  fmtModeValue : Word
  /-- A_FMT_FRAME, the formatter's framing-control register. -/
  aFmtFrame : Word
  /-- FMT_CONT_MASK, the continuous-formatting flag. -/
  fmtContMask : Word
  /-- A_SYNC_LOCK, the sync source's unlock register. -/
  aSyncLock : Word
  /-- A_SYNC_CTRL, the sync source's control register. -/
  aSyncCtrl : Word
  /-- SYNC_CTRL_VALUE, the pattern enabling the sync counters. -/
  syncCtrlValue : Word
  /-- A_ITM_LOCK, the instrumentation unit's unlock register. -/
  aItmLock : Word
  /-- A_ITM_PRIV, the trace-privilege register. -/
  aItmPriv : Word
  /-- ITM_PRIV_VALUE, the value written to it. -/
  itmPrivValue : Word
  /-- A_ITM_CTRL, the global enable register. -/
  aItmCtrl : Word
  /-- ITM_EN_INSTR, instrumentation-enable. -/
  itmEnInstr : Word
  /-- ITM_EN_SYNC, sync-enable. -/
  itmEnSync : Word
  /-- ITM_EN_TRACE, ITM-trace-enable. -/
  itmEnTrace : Word
  /-- ITM_EN_SWO, SWO-enable. -/
  itmEnSwo : Word
  /-- ITM_TSPRESCALE_FIELD, the timestamp-prescaler field, already shifted to its place. -/
  itmTsprescaleField : Word
  /-- A_ITM_CHEN, the channel-enable-mask register. -/
  aItmChen : Word
  /-- A_STIM_BASE, the stimulus port of channel 0. -/
  aStimBase : Word
  /-- STIM_READY_MASK, the ready bit of the status word. -/
  stimReadyMask : Word
  /-- N_CHANNELS, the number of stimulus channels. -/
  nChannels : Nat
  /-- FIFO_DEPTH, the words one channel FIFO holds. -/
  fifoDepth : Nat
  /-- A_DBGCTL, the debug-control register. -/
  aDbgctl : Word
  /-- DBGCTL_CLEAR_MASK, the bits of the previous trace-output routing. -/
  dbgctlClearMask : Word
  /-- DBGCTL_IOEN_MASK, trace I/O enable. -/
  dbgctlIoenMask : Word
  /-- DBGCTL_MODE_MASK, the trace mode field. -/
  dbgctlModeMask : Word
  /-- KEY, the fixed unlock key. -/
  key : Word
  /-- TARGET_BAUD_HZ. -/
  targetBaudHz : Nat
  /-- TRACE_EN_GATING: the trace units ignore writes while the global trace-enable bit is 0. -/
  traceEnGating : Bool
  /-- PAYLOAD, the byte the driving loop repeats, by the value of its counter. -/
  payload : Vector Byte 256
  deriving DecidableEq, Repr

/-- P_REF, the reference instantiation of R8's last column (R10). -/
def Cfg.pRef : Cfg where
  aDbgen := 0xE000EDFC#32
  dbgenTraceMask := 0x01000000#32
  aFmtLock := 0xE0040FB0#32
  aFmtWidth := 0xE0040004#32
  fmtWidth1Bit := 0x00000001#32
  aFmtDiv := 0xE0040010#32
  aFmtMode := 0xE00400F0#32
  fmtModeValue := 0x00000002#32
  aFmtFrame := 0xE0040304#32
  fmtContMask := 0x00000002#32
  aSyncLock := 0xE0001FB0#32
  aSyncCtrl := 0xE0001000#32
  syncCtrlValue := 0x400003FE#32
  aItmLock := 0xE0000FB0#32
  aItmPriv := 0xE0000E40#32
  itmPrivValue := 0x00000000#32
  aItmCtrl := 0xE0000E80#32
  itmEnInstr := 0x00000001#32
  itmEnSync := 0x00000004#32
  itmEnTrace := 0x00000008#32
  itmEnSwo := 0x00000010#32
  itmTsprescaleField := 0x00000100#32
  aItmChen := 0xE0000E00#32
  aStimBase := 0xE0000000#32
  stimReadyMask := 0x00000001#32
  nChannels := 32
  fifoDepth := 1
  aDbgctl := 0xE0042004#32
  dbgctlClearMask := 0x000000E0#32
  dbgctlIoenMask := 0x00000020#32
  dbgctlModeMask := 0x000000C0#32
  key := 0xC5ACCE55#32
  targetBaudHz := 1000000
  traceEnGating := true
  payload := Vector.ofFn fun i => BitVec.ofNat 8 i.val

/-- FREE VALUE: `draw(32)` of R12, a 32-bit value no rule constrains, fresh at each use: the step applies it to State's
counter `fresh` and advances the counter (notes/assumptions/6.md). -/
opaque Config.draw : Nat → Word

/-- FREE VALUE: the environment's choice of who moves next, where State's list `env` has ended (spec/20_memory.md R92: no
condition and no bound on the drain; spec/70_reset_and_hazards.md R260: reset in any state; notes/assumptions/5.md). -/
opaque Config.envChoice : Nat → Machine.EnvAction

/-- FREE VALUE: the target as a reset in the middle of a run leaves it (R261; notes/assumptions/7.md). -/
opaque Config.relaunch : Nat → Machine.Launch

end Sys2Proof
end

