-- ==== Sys2Proof/Machine/AddressMap.lean ====
section
/-! DEFINITION. The address map of the bus (spec/20_memory.md R76, spec/30_encoding.md R133) and the constraints on Cfg
(spec/00_scope.md R9). -/

namespace Sys2Proof

open Machine (Block StorageReg BusReg)

/-- `StimAddr(ch)` of R133; it does not wrap under R9 (a). -/
def Cfg.stimAddr (c : Cfg) (ch : Chan) : Word := c.aStimBase + 4#32 * ch.setWidth 32

/-- The thirteen fixed registers with their addresses (R76). -/
def Cfg.fixedMap (c : Cfg) : List (Word × BusReg) :=
  [(c.aDbgen, .storage .dbgen),
   (c.aFmtLock, .unlock .fmt),
   (c.aFmtWidth, .storage .fmtWidth),
   (c.aFmtDiv, .storage .fmtDiv),
   (c.aFmtMode, .storage .fmtMode),
   (c.aFmtFrame, .storage .fmtFrame),
   (c.aSyncLock, .unlock .sync),
   (c.aSyncCtrl, .storage .syncCtrl),
   (c.aItmLock, .unlock .itm),
   (c.aItmPriv, .storage .itmPriv),
   (c.aItmCtrl, .storage .itmCtrl),
   (c.aItmChen, .storage .itmChen),
   (c.aDbgctl, .storage .dbgctl)]

/-- The thirteen fixed addresses (R9 (b)). -/
def Cfg.fixedAddrs (c : Cfg) : List Word := c.fixedMap.map Prod.fst

/-- The channel whose stimulus port stands at an address: one of `A_STIM_BASE + 4*ch` with `ch < N_CHANNELS`. -/
def Cfg.portAt (c : Cfg) (a : Word) : Option Chan :=
  if c.aStimBase.toNat ≤ a.toNat ∧ (a.toNat - c.aStimBase.toNat) % 4 = 0 ∧ (a.toNat - c.aStimBase.toNat) / 4 < c.nChannels
  then some (BitVec.ofNat 5 ((a.toNat - c.aStimBase.toNat) / 4))
  else none

/-- What stands at a bus address; `none` is an address outside the map (R91). -/
def Cfg.regAt (c : Cfg) (a : Word) : Option BusReg :=
  match c.fixedMap.lookup a with
  | some r => some r
  | none => (c.portAt a).map BusReg.port

/-- The address of a register of the map. -/
def Cfg.addrOf (c : Cfg) : BusReg → Word
  | .storage .dbgen => c.aDbgen
  | .storage .fmtWidth => c.aFmtWidth
  | .storage .fmtDiv => c.aFmtDiv
  | .storage .fmtMode => c.aFmtMode
  | .storage .fmtFrame => c.aFmtFrame
  | .storage .syncCtrl => c.aSyncCtrl
  | .storage .itmPriv => c.aItmPriv
  | .storage .itmCtrl => c.aItmCtrl
  | .storage .itmChen => c.aItmChen
  | .storage .dbgctl => c.aDbgctl
  | .unlock .fmt => c.aFmtLock
  | .unlock .sync => c.aSyncLock
  | .unlock .itm => c.aItmLock
  | .port ch => c.stimAddr ch

/-- Exactly one bit of the mask is set (R9 (g)). -/
def oneBitSet (m : Word) : Bool := m != 0 && (m &&& (m - 1)) == 0

/-- R9 (a): every address is a multiple of 4, and the last stimulus address is below 2^32. -/
def Cfg.addrsAligned (c : Cfg) : Bool :=
  (c.aStimBase :: c.fixedAddrs).all (fun a => a.toNat % 4 == 0) &&
    decide (c.aStimBase.toNat + 4 * (c.nChannels - 1) < 2 ^ 32)

/-- R9 (b): the thirteen fixed addresses and the stimulus addresses are pairwise distinct. -/
def Cfg.addrsDistinct (c : Cfg) : Bool :=
  decide c.fixedAddrs.Nodup && c.fixedAddrs.all (fun a => (c.portAt a).isNone)

/-- R9 (c) to (e), with the type of TARGET_BAUD_HZ in R8 (1 to 2^32 - 1). -/
def Cfg.sizesOk (c : Cfg) : Bool :=
  decide (1 ≤ c.targetBaudHz) && decide (c.targetBaudHz < 2 ^ 32) &&
    decide (8 ≤ c.nChannels) && decide (c.nChannels ≤ 32) && decide (1 ≤ c.fifoDepth)

/-- R9 (f) to (h). -/
def Cfg.masksOk (c : Cfg) : Bool :=
  (c.dbgctlModeMask &&& c.dbgctlClearMask) == c.dbgctlModeMask &&
    (c.dbgctlIoenMask &&& c.dbgctlModeMask) == 0 &&
    oneBitSet c.dbgenTraceMask && oneBitSet c.fmtContMask && oneBitSet c.stimReadyMask && oneBitSet c.dbgctlIoenMask &&
    c.itmEnInstr != 0

/-- The constraints of R9, each needed by a rule. A step under a Cfg that breaks one is refused, `bad_cfg` (R75). -/
def Cfg.ok (c : Cfg) : Bool := c.addrsAligned && c.addrsDistinct && c.sizesOk && c.masksOk

end Sys2Proof
end

