-- ==== Sys2Proof/Syntax.lean ====
section
/-! DEFINITION. The twenty-two operations of TSIC in three formats (spec/30_encoding.md R120), one constructor per row of the
opcode table, and the textual forms of R137. Micro-operations and driver states have no operand field (R123, R125). -/

namespace Sys2Proof

/-- The operations (R120). -/
inductive Instr where
  /-- NONE: no command presented (spec/40_commands.md R154). -/
  | none
  /-- ACQUIRE: take the one handle to the register set (R151). -/
  | acquire
  /-- BRINGUP with the clock frequency in hertz (R152). -/
  | bringup (clockHz : Word)
  /-- WRITE of a byte sequence through a channel (R153). -/
  | write (channel : Chan) (bytes : List Byte)
  /-- BU01: set the global trace-enable bit (spec/41_bringup_sequence.md R171). -/
  | bu01
  /-- BU02: unlock the formatter (R172). -/
  | bu02
  /-- BU03: select the 1-bit encoding width (R173). -/
  | bu03
  /-- BU04: program the clock divisor (R174). -/
  | bu04
  /-- BU05: select the single-wire port mode (R175). -/
  | bu05
  /-- BU06: clear the continuous-formatting flag (R176). -/
  | bu06
  /-- BU07: unlock the sync source (R177). -/
  | bu07
  /-- BU08: program the sync source's control register (R178). -/
  | bu08
  /-- BU09: unlock the instrumentation unit (R179). -/
  | bu09
  /-- BU10: set the trace-privilege register (R180). -/
  | bu10
  /-- BU11: set the global enable register (R181). -/
  | bu11
  /-- BU12: enable stimulus channel 0 and no other (R182). -/
  | bu12
  /-- BU13: clear the previous trace-output routing (R183). -/
  | bu13
  /-- BU14: enable trace I/O in asynchronous mode, last step (R184). -/
  | bu14
  /-- WR_POLL: read the channel's status once and branch on it (spec/42_stimulus_writer.md R201). -/
  | wrPoll
  /-- WR_PUSH: push the next word and advance (R202). -/
  | wrPush
  /-- DRV_INIT: the driver's INIT state (spec/43_driving_loop.md R221). -/
  | drvInit
  /-- DRV_RUN: the driver's RUN state (R222). -/
  | drvRun
  deriving DecidableEq, Repr, Inhabited

/-- The three formats of R120. -/
inductive Format where
  | cmd
  | uop
  | drv
  deriving DecidableEq, Repr

/-- The format of each operation (R120). -/
def Instr.format : Instr → Format
  | .none | .acquire | .bringup _ | .write _ _ => .cmd
  | .bu01 | .bu02 | .bu03 | .bu04 | .bu05 | .bu06 | .bu07 | .bu08 | .bu09 | .bu10 | .bu11 | .bu12 | .bu13 | .bu14 => .uop
  | .wrPoll | .wrPush => .uop
  | .drvInit | .drvRun => .drv

/-- One hexadecimal digit, capital letters (the spelling of spec/95_test_vectors.md). -/
def hexDigit (n : Nat) : String :=
  if n < 10 then toString n
  else if n = 10 then "A" else if n = 11 then "B" else if n = 12 then "C"
  else if n = 13 then "D" else if n = 14 then "E" else "F"

/-- A byte of a bracketed list: two hexadecimal digits (R137). -/
def byteText (b : Byte) : String := hexDigit (b.toNat / 16) ++ hexDigit (b.toNat % 16)

/-- The textual syntax of R137: commands in the source's spelling, micro-operations by name. R137 gives NONE and the two
driver states no spelling; they are written by their names in the opcode table (DESIGN CHOICE, notes/assumptions/21.md). -/
def Instr.text : Instr → String
  | .none => "NONE"
  | .acquire => "acquire"
  | .bringup f => "bring_up " ++ toString f.toNat
  | .write ch bytes => "write " ++ toString ch.toNat ++ ", [" ++ ", ".intercalate (bytes.map byteText) ++ "]"
  | .bu01 => "BU01"
  | .bu02 => "BU02"
  | .bu03 => "BU03"
  | .bu04 => "BU04"
  | .bu05 => "BU05"
  | .bu06 => "BU06"
  | .bu07 => "BU07"
  | .bu08 => "BU08"
  | .bu09 => "BU09"
  | .bu10 => "BU10"
  | .bu11 => "BU11"
  | .bu12 => "BU12"
  | .bu13 => "BU13"
  | .bu14 => "BU14"
  | .wrPoll => "WR_POLL"
  | .wrPush => "WR_PUSH"
  | .drvInit => "DRV_INIT"
  | .drvRun => "DRV_RUN"

end Sys2Proof
end

