-- ==== Sys2Proof/Decode.lean ====
section
/-! DEFINITION. Codes, decoder and encoder (spec/30_encoding.md R120 to R125, R135). An operation is presented in one of three
raw forms: the command record of R121, the 5-bit SEQ code of R123, the 1-bit DSTATE code of R125. The formats are told apart
by WHERE the code stands (a command record, SEQ, DSTATE), not by a bit of it, so the raw form carries its format. -/

namespace Sys2Proof

/-- The command record of R121: all four fields are presented together. -/
structure CommandRecord where
  cmd : BitVec 2
  clockHz : Word
  channel : Chan
  bytes : List Byte
  deriving DecidableEq, Repr

/-- An operation as it is presented, before decoding (R120). -/
inductive Raw where
  /-- Format CMD: a command record. -/
  | cmd (r : CommandRecord)
  /-- Format UOP: the value of SEQ. -/
  | uop (seq : BitVec 5)
  /-- Format DRV: the value of DSTATE. -/
  | drv (dstate : BitVec 1)
  deriving DecidableEq, Repr

/-- Why a raw form names no operation. Only SEQ codes can fail: CMD and DRV have no reserved code (R122, R125). -/
inductive DecodeError where
  /-- SEQ = 0x00: no command in progress, not an operation (R123). -/
  | idleCode
  /-- SEQ = 0x1F: stopped after the fault, not an operation (R123). -/
  | haltCode
  /-- SEQ = 0x0F or 0x12 to 0x1E: reserved (R135). -/
  | reservedCode (seq : BitVec 5)
  deriving DecidableEq, Repr

/-! The named codes of SEQ (R123). -/

@[simp] abbrev Seq.idle : BitVec 5 := 0x00#5
@[simp] abbrev Seq.bu01 : BitVec 5 := 0x01#5
@[simp] abbrev Seq.bu02 : BitVec 5 := 0x02#5
@[simp] abbrev Seq.bu03 : BitVec 5 := 0x03#5
@[simp] abbrev Seq.bu04 : BitVec 5 := 0x04#5
@[simp] abbrev Seq.bu05 : BitVec 5 := 0x05#5
@[simp] abbrev Seq.bu06 : BitVec 5 := 0x06#5
@[simp] abbrev Seq.bu07 : BitVec 5 := 0x07#5
@[simp] abbrev Seq.bu08 : BitVec 5 := 0x08#5
@[simp] abbrev Seq.bu09 : BitVec 5 := 0x09#5
@[simp] abbrev Seq.bu10 : BitVec 5 := 0x0A#5
@[simp] abbrev Seq.bu11 : BitVec 5 := 0x0B#5
@[simp] abbrev Seq.bu12 : BitVec 5 := 0x0C#5
@[simp] abbrev Seq.bu13 : BitVec 5 := 0x0D#5
@[simp] abbrev Seq.bu14 : BitVec 5 := 0x0E#5
@[simp] abbrev Seq.wrPoll : BitVec 5 := 0x10#5
@[simp] abbrev Seq.wrPush : BitVec 5 := 0x11#5
@[simp] abbrev Seq.halt : BitVec 5 := 0x1F#5

/-- The sixteen micro-operation rows of R123. -/
def uopTable : List (BitVec 5 × Instr) :=
  [(Seq.bu01, .bu01), (Seq.bu02, .bu02), (Seq.bu03, .bu03), (Seq.bu04, .bu04), (Seq.bu05, .bu05), (Seq.bu06, .bu06),
   (Seq.bu07, .bu07), (Seq.bu08, .bu08), (Seq.bu09, .bu09), (Seq.bu10, .bu10), (Seq.bu11, .bu11), (Seq.bu12, .bu12),
   (Seq.bu13, .bu13), (Seq.bu14, .bu14), (Seq.wrPoll, .wrPoll), (Seq.wrPush, .wrPush)]

/-- Decoding of a SEQ code (R123, R135). -/
def decodeUop (seq : BitVec 5) : Except DecodeError Instr :=
  if seq = Seq.idle then .error .idleCode
  else if seq = Seq.halt then .error .haltCode
  else match uopTable.lookup seq with
    | some i => .ok i
    | none => .error (.reservedCode seq)

/-- Decoding of a command record (R122); the fields a command does not use are ignored (R121). -/
def decodeCmd (r : CommandRecord) : Instr :=
  if r.cmd = 0b00#2 then .none
  else if r.cmd = 0b01#2 then .acquire
  else if r.cmd = 0b10#2 then .bringup r.clockHz
  else .write r.channel r.bytes

/-- Decoding of a DSTATE code (R125). -/
def decodeDrv (dstate : BitVec 1) : Instr :=
  if dstate = 0#1 then .drvInit else .drvRun

/-- The decoder, total on every raw form. -/
def decode : Raw → Except DecodeError Instr
  | .cmd r => .ok (decodeCmd r)
  | .uop seq => decodeUop seq
  | .drv d => .ok (decodeDrv d)

/-- The encoder, from the tables of R122, R123 and R125; operand fields a command does not use are zero or empty. -/
def encode : Instr → Raw
  | .none => .cmd ⟨0b00#2, 0, 0, []⟩
  | .acquire => .cmd ⟨0b01#2, 0, 0, []⟩
  | .bringup f => .cmd ⟨0b10#2, f, 0, []⟩
  | .write ch bytes => .cmd ⟨0b11#2, 0, ch, bytes⟩
  | .bu01 => .uop 0x01#5
  | .bu02 => .uop 0x02#5
  | .bu03 => .uop 0x03#5
  | .bu04 => .uop 0x04#5
  | .bu05 => .uop 0x05#5
  | .bu06 => .uop 0x06#5
  | .bu07 => .uop 0x07#5
  | .bu08 => .uop 0x08#5
  | .bu09 => .uop 0x09#5
  | .bu10 => .uop 0x0A#5
  | .bu11 => .uop 0x0B#5
  | .bu12 => .uop 0x0C#5
  | .bu13 => .uop 0x0D#5
  | .bu14 => .uop 0x0E#5
  | .wrPoll => .uop 0x10#5
  | .wrPush => .uop 0x11#5
  | .drvInit => .drv 0#1
  | .drvRun => .drv 1#1

/-- A command record with the given code and every operand zero or empty. -/
def bareCommand (cmd : BitVec 2) : CommandRecord := ⟨cmd, 0, 0, []⟩

/-- The raw form a table word stands for. The table's rows have 2 bits (CMD), 5 bits (UOP) or 1 bit (DRV), and the same
number is a code of several formats, since the format is no part of the code (R120). The width tells them apart; any width
but 1 and 2 is read as SEQ. The word 0x00 is SEQ = IDLE, which no row has and which is no operation (R123): in fewer than 8
bits, the 5 of SEQ among them, it is presented as that code, which `decodeUop` refuses; in 8 bits or more it is presented as
the driver state DSTATE = 0, which is what steps while SEQ is IDLE (DESIGN CHOICE, notes/assumptions/9.md). -/
def rawOfTableWord (nbits w : Nat) : Option Raw :=
  if nbits = 1 then (if w < 2 then some (.drv (BitVec.ofNat 1 w)) else none)
  else if nbits = 2 then (if w < 4 then some (.cmd (bareCommand (BitVec.ofNat 2 w))) else none)
  else if w = 0 ∧ 8 ≤ nbits then some (.drv 0#1)
  else if w < 32 then some (.uop (BitVec.ofNat 5 w))
  else none

/-- The instruction this decoder reads from a table word (the operand words, where there are any, are zero). -/
def decodeTableWord (nbits w : Nat) : Option Instr :=
  match rawOfTableWord nbits w with
  | some r => (decode r).toOption
  | none => none

end Sys2Proof
end

