-- ==== Sys2Proof/Machine/State.lean ====
section
/-! DEFINITION. The state of TSIC: controller, driver and target state (spec/10_state.md), the two records of the observation,
and the model's own fields (configuration, inputs, the counter of free values). Plain data. -/

namespace Sys2Proof.Machine

/-- Why a step stops the machine. -/
inductive Fault where
  /-- Raised by the step itself when neither the controller nor the driver has a step: SEQ is HALT, or SEQ is IDLE with FAULT
  set (spec/40_commands.md R150, spec/60_exceptions.md R232). The fault entry before it is a next state. Safe. -/
  | halted
  deriving DecidableEq, Repr

/-- Why a situation has no meaning (spec/60_exceptions.md R235). A refusal is no hardware event. -/
inductive Refusal where
  /-- An instruction that has no meaning yet; raised by exec's arms only. Safe. -/
  | notModelled (mnemonic : String)
  /-- `no_handle`: BRINGUP or WRITE while OWNED is 0 (R152, R153). Safe. -/
  | noHandle
  /-- `clock_out_of_range`: BRINGUP with a clock not above TARGET_BAUD_HZ (R152). Safe. -/
  | clockOutOfRange
  /-- `bad_channel`: WRITE to a channel not below N_CHANNELS (R153). Safe. -/
  | badChannel
  /-- `channel_not_enabled`: WRITE of an empty sequence to a channel that is not enabled; with bytes to push, the model takes
  the spinning run that R153 admits (notes/assumptions/11.md). Safe. -/
  | channelNotEnabled
  /-- `bad_cfg`: a step under a configuration that breaks R9 (spec/20_memory.md R75). Safe. -/
  | badCfg
  /-- `bad_seq`: a step from a reserved SEQ code (spec/30_encoding.md R135). Safe. -/
  | badSeq
  /-- `unmapped`: an access outside the address map (spec/20_memory.md R91). Safe. -/
  | unmapped
  deriving DecidableEq, Repr

/-- The command source (spec/00_scope.md R7): the driver of spec/43_driving_loop.md, or another host with the command records
it still has to present, in order; a host with none left presents NONE. -/
inductive Source where
  | driver
  | host (records : List CommandRecord)
  deriving DecidableEq, Repr

/-- The state. -/
structure State where
  /-- The configuration (R8). The model's own field: no step writes it. -/
  cfg : Cfg
  /-- CLOCK_HZ_IN, the driver's launch input (R31): no step writes it. -/
  clockHzIn : Word
  /-- Who presents commands. The model's own field. -/
  source : Source
  /-- The environment's next choices, first one first. The model's own field. -/
  env : List EnvAction
  /-- How many free values have been used. The model's own field. -/
  fresh : Nat
  /-- OWNED (R21). -/
  owned : Bool
  /-- SEQ (R22). -/
  seq : BitVec 5
  /-- FAULT (R23). -/
  fault : Bool
  /-- FCODE (R23). -/
  fcode : BitVec 2
  /-- CLK (R25). -/
  clk : Word
  /-- DIV (R26). -/
  div : Word
  /-- A BRINGUP has written CLK and DIV since reset (R30). No operation consults it. -/
  divHeld : Bool
  /-- CH (R27). -/
  ch : Chan
  /-- BUF (R28). -/
  buf : List Byte
  /-- LEN (R28). -/
  len : Nat
  /-- IDX (R29). -/
  idx : Nat
  /-- A WRITE has written CH, BUF, LEN and IDX since reset (R30). No operation consults it. -/
  writeHeld : Bool
  /-- DSTATE (R31): 0 is INIT, 1 is RUN. -/
  dstate : BitVec 1
  /-- DPHASE (R31). -/
  dphase : BitVec 1
  /-- CNT (R31). -/
  cnt : Byte
  /-- REG[a], the ten storage registers (R50). -/
  regs : TargetRegs
  /-- LOCKED_FMT, LOCKED_SYNC, LOCKED_ITM (R51 to R53). -/
  locks : LockFlags
  /-- FIFO[ch], oldest word first (R54). -/
  fifo : Vector (List Word) 32
  /-- EMIT, oldest first (R55). -/
  emit : List (Chan × Word)
  /-- TRACE, oldest first (R55). -/
  trace : List BusTxn
  deriving DecidableEq, Repr

/-- The launch state (spec/10_state.md R58, spec/70_reset_and_hazards.md R260, R261) for a configuration, a clock input and
launch values INIT[a] of the storage registers, on which the spec puts no condition (R50). The registers that R58 gives
"none" are zero or empty, a value the model names (DESIGN CHOICE), and `divHeld` and `writeHeld` record that no command has
written them (notes/assumptions/3.md). The
environment's first choice is `proceed`, since "after reset the first thing that happens is the driver's first step" (R261). -/
def State.launch (cfg : Cfg) (clockHzIn : Word) (init : TargetRegs) : State where
  cfg := cfg
  clockHzIn := clockHzIn
  source := .driver
  env := [.proceed]
  fresh := 0
  owned := false
  seq := Seq.idle
  fault := false
  fcode := 0#2
  clk := 0#32
  div := 0#32
  divHeld := false
  ch := 0#5
  buf := []
  len := 0
  idx := 0
  writeHeld := false
  dstate := 0#1
  dphase := 0#1
  cnt := 0#8
  regs := init
  locks := ⟨true, true, true⟩
  fifo := Vector.replicate 32 []
  emit := []
  trace := []

/-- One instance of INIT[a]: the launch values of spec/95_test_vectors.md part 3, there "chosen arbitrarily" (DESIGN CHOICE,
notes/assumptions/2.md). -/
def TargetRegs.vectorInit : TargetRegs where
  dbgen := 0x00000000#32
  fmtWidth := 0x00000004#32
  fmtDiv := 0x00000000#32
  fmtMode := 0x00000001#32
  fmtFrame := 0x00000102#32
  syncCtrl := 0x40000000#32
  itmPriv := 0x0000000F#32
  itmCtrl := 0x00000000#32
  itmChen := 0x00000000#32
  dbgctl := 0x000000C7#32

/-- The machine right after reset: the launch state at P_REF, 8 MHz and the launch values of the test vectors (DESIGN CHOICE,
notes/assumptions/1.md, 2.md, 4.md). -/
def State.reset : State := State.launch Cfg.pRef 8000000#32 TargetRegs.vectorInit

end Sys2Proof.Machine
end

