-- ==== Sys2Proof/Machine/Flags.lean ====
section
/-! DEFINITION. The derived flags and predicates: BUSY (spec/10_state.md R24), whether the driver has a step (R150), and the
target's TraceEnabled, Gate, ChannelEnabled and Ready (R56). -/

namespace Sys2Proof.Machine

/-- BUSY (R24): SEQ is neither IDLE nor HALT. The controller has a step exactly then (spec/40_commands.md R150). -/
def State.busy (s : State) : Bool := s.seq != Seq.idle && s.seq != Seq.halt

/-- The driver has a step exactly when SEQ is IDLE and FAULT is 0 (R150). -/
def State.accepting (s : State) : Bool := s.seq == Seq.idle && !s.fault

/-- The queue of a channel (R54). -/
def State.fifoAt (s : State) (ch : Chan) : List Word := s.fifo[ch.toNat]'(ch.isLt)

/-- A lock flag (R51 to R53). -/
def LockFlags.get (l : LockFlags) : Block → Bool
  | .fmt => l.fmt
  | .sync => l.sync
  | .itm => l.itm

/-- TraceEnabled (R56). -/
def State.traceEnabled (s : State) : Bool := (s.regs.dbgen &&& s.cfg.dbgenTraceMask) != 0

/-- Gate (R56, R81). -/
def State.gate (s : State) : Bool := !s.cfg.traceEnGating || s.traceEnabled

/-- ChannelEnabled(ch) (R56, R87). -/
def State.channelEnabled (s : State) (ch : Chan) : Bool :=
  s.gate && (s.regs.itmCtrl &&& s.cfg.itmEnInstr) != 0 && s.regs.itmChen.getLsbD ch.toNat

/-- Ready(ch) (R56). -/
def State.ready (s : State) (ch : Chan) : Bool :=
  s.channelEnabled ch && decide ((s.fifoAt ch).length < s.cfg.fifoDepth)

end Sys2Proof.Machine
end

