-- ==== Sys2Proof/Machine/Operands.lean ====
section
/-! DEFINITION. Operand assembly (spec/30_encoding.md R127 to R132, R134): the divisor, the words of a byte sequence, the
global-enable word, the debug-control set mask, the driver's counter and payload. -/

namespace Sys2Proof

/-- `Divisor(f) = f / TARGET_BAUD_HZ - 1` by floor division (R128); the rule defines it for `f > TARGET_BAUD_HZ`, and
BRINGUP is refused for every other `f` (R152), so that no other value is ever stored. -/
def Cfg.divisor (c : Cfg) (f : Word) : Word := BitVec.ofNat 32 (f.toNat / c.targetBaudHz - 1)

/-- `NWORDS = ceil(LEN / 4)` (R130). -/
def wordCount (len : Nat) : Nat := (len + 3) / 4

/-- `B(j)` of R129: byte `j` of the sequence, zero from LEN on. -/
def paddedByte (buf : List Byte) (len j : Nat) : Byte := if j < len then buf.getD j 0 else 0

/-- `Word(i)` of R129: little-endian, byte `4i` in bits 7:0. -/
def wordAt (buf : List Byte) (len i : Nat) : Word :=
  concatBytes (paddedByte buf len (4 * i + 3)) (paddedByte buf len (4 * i + 2)) (paddedByte buf len (4 * i + 1))
    (paddedByte buf len (4 * i))

/-- All words of a byte sequence in push order (R129, R130, spec/42_stimulus_writer.md R205). -/
def wordsOf (buf : List Byte) : List Word := (List.range (wordCount buf.length)).map (wordAt buf buf.length)

/-- The four bytes of a word, low byte first: how the receiver of R205 unpacks it. -/
def bytesOfWord (w : Word) : List Byte :=
  [w.extractLsb' 0 8, w.extractLsb' 8 8, w.extractLsb' 16 8, w.extractLsb' 24 8]

/-- `ITM_CTRL_VALUE` (R131): the union of the five fields. -/
def Cfg.itmCtrlValue (c : Cfg) : Word :=
  c.itmEnInstr ||| c.itmEnSync ||| c.itmEnTrace ||| c.itmEnSwo ||| c.itmTsprescaleField

/-- `DBGCTL_SET` (R132): the asynchronous mode value is all zeros, so only the IOEN bit is set. -/
def Cfg.dbgctlSet (c : Cfg) : Word := c.dbgctlIoenMask

/-- The value BU12 writes: channel 0 and no other (spec/41_bringup_sequence.md R182). -/
def channelZeroMask : Word := 0x00000001#32

/-- `PAYLOAD(CNT)` (spec/43_driving_loop.md R223). -/
def Cfg.payloadByte (c : Cfg) (cnt : Byte) : Byte := c.payload[cnt.toNat]'(cnt.isLt)

/-- The driver's payload: the byte repeated 8 times (R222). -/
def Cfg.payloadBytes (c : Cfg) (cnt : Byte) : List Byte := List.replicate 8 (c.payloadByte cnt)

/-- `(CNT + 1) mod 256` (R134): 8-bit addition wraps. -/
def nextCount (cnt : Byte) : Byte := cnt + 1

end Sys2Proof
end

