-- ==== Sys2Proof/Machine/Ops.lean ====
section
/-! DEFINITION. The shared operations: the target's reaction to reads and writes, the two bus primitives, fault entry, command
acceptance, the six classes of micro-operation, the drain and the external reset. -/

namespace Sys2Proof.Machine

/-! ## Registers of the target -/

/-- `REG[a]` of a storage register (R50). -/
def TargetRegs.get (r : TargetRegs) : StorageReg → Word
  | .dbgen => r.dbgen
  | .fmtWidth => r.fmtWidth
  | .fmtDiv => r.fmtDiv
  | .fmtMode => r.fmtMode
  | .fmtFrame => r.fmtFrame
  | .syncCtrl => r.syncCtrl
  | .itmPriv => r.itmPriv
  | .itmCtrl => r.itmCtrl
  | .itmChen => r.itmChen
  | .dbgctl => r.dbgctl

/-- `REG[a] <- v`: all 32 bits are stored (R86). -/
def TargetRegs.set (r : TargetRegs) (a : StorageReg) (v : Word) : TargetRegs :=
  match a with
  | .dbgen => { r with dbgen := v }
  | .fmtWidth => { r with fmtWidth := v }
  | .fmtDiv => { r with fmtDiv := v }
  | .fmtMode => { r with fmtMode := v }
  | .fmtFrame => { r with fmtFrame := v }
  | .syncCtrl => { r with syncCtrl := v }
  | .itmPriv => { r with itmPriv := v }
  | .itmCtrl => { r with itmCtrl := v }
  | .itmChen => { r with itmChen := v }
  | .dbgctl => { r with dbgctl := v }

/-- A lock flag written. -/
def LockFlags.set (l : LockFlags) (b : Block) (v : Bool) : LockFlags :=
  match b with
  | .fmt => { l with fmt := v }
  | .sync => { l with sync := v }
  | .itm => { l with itm := v }

/-- The block whose lock a storage register obeys (spec/20_memory.md R82); DBGEN and DBGCTL obey none. -/
def StorageReg.block : StorageReg → Option Block
  | .fmtWidth | .fmtDiv | .fmtMode | .fmtFrame => some .fmt
  | .syncCtrl => some .sync
  | .itmPriv | .itmCtrl | .itmChen => some .itm
  | .dbgen | .dbgctl => none

/-! ## Updates of the state -/

/-- `SEQ <- n`. -/
def State.setSeq (s : State) (n : BitVec 5) : State := { s with seq := n }

/-- The storage registers replaced. -/
def State.setRegs (s : State) (r : TargetRegs) : State := { s with regs := r }

/-- The lock flags replaced. -/
def State.setLocks (s : State) (l : LockFlags) : State := { s with locks := l }

/-- `FIFO[ch] <- q`. -/
def State.setFifo (s : State) (ch : Chan) (q : List Word) : State := { s with fifo := s.fifo.set ch.toNat q ch.isLt }

/-- `EMIT <- EMIT ++ [(ch, w)]`. -/
def State.addEmit (s : State) (ch : Chan) (w : Word) : State := { s with emit := s.emit ++ [(ch, w)] }

/-- `TRACE <- TRACE ++ [t]`. -/
def State.log (s : State) (t : BusTxn) : State := { s with trace := s.trace ++ [t] }

/-- A free value has been used. -/
def State.useFresh (s : State) : State := { s with fresh := s.fresh + 1 }

/-- `IDX <- i`. -/
def State.setIdx (s : State) (i : Nat) : State := { s with idx := i }

/-- `OWNED <- 1`. -/
def State.grant (s : State) : State := { s with owned := true }

/-- `CLK <- f; DIV <- d`, and the record that both have been written. -/
def State.latchClock (s : State) (f d : Word) : State := { s with clk := f, div := d, divHeld := true }

/-- `CH <- ch; BUF <- bytes; LEN <- length(bytes); IDX <- 0`, and the record that all four have been written. -/
def State.latchWrite (s : State) (ch : Chan) (bytes : List Byte) : State :=
  { s with ch := ch, buf := bytes, len := bytes.length, idx := 0, writeHeld := true }

/-- The driver's two bits written. -/
def State.setDriver (s : State) (dstate dphase : BitVec 1) : State := { s with dstate := dstate, dphase := dphase }

/-- `CNT <- c`. -/
def State.setCnt (s : State) (c : Byte) : State := { s with cnt := c }

/-- NWORDS of the WRITE in progress (R130). -/
def State.nwords (s : State) : Nat := wordCount s.len

/-! ## The target's reaction (spec/20_memory.md sections 2 and 3) -/

/-- The status word of a port (R89): the bit under STIM_READY_MASK says Ready(ch), every other bit is the draw's. -/
def State.statusWord (s : State) (ch : Chan) : Word :=
  (if s.ready ch then s.cfg.stimReadyMask else 0#32) ||| (Config.draw s.fresh &&& ~~~s.cfg.stimReadyMask)

/-- `TargetRead` (R80, R89, R90): the value and the state after; only the counter of free values can change. -/
def State.targetRead (s : State) : BusReg → Word × State
  | .storage r => (s.regs.get r, s)
  | .unlock _ => (Config.draw s.fresh, s.useFresh)
  | .port ch => (s.statusWord ch, s.useFresh)

/-- A storage register takes a write (R84 to R86): DBGEN and DBGCTL always, a protected register when the gate is open and
its block is unlocked. -/
def State.storageWritable (s : State) (r : StorageReg) : Bool :=
  match r.block with
  | none => true
  | some b => s.gate && !s.locks.get b

/-- `TargetWrite` (R83 to R88). -/
def State.targetWrite (s : State) (a : BusReg) (v : Word) : State :=
  match a with
  | .storage r => if s.storageWritable r then s.setRegs (s.regs.set r v) else s
  | .unlock b => if s.gate then s.setLocks (s.locks.set b (v != s.cfg.key)) else s
  | .port ch => if s.ready ch then s.setFifo ch (s.fifoAt ch ++ [v]) else s

/-- `MemRead(a, 4)` (R71): the target's value, recorded in TRACE; `none` outside the map (R91). -/
def State.memRead (s : State) (a : Word) : Option (Word × State) :=
  match s.cfg.regAt a with
  | none => none
  | some r => some ((s.targetRead r).1, (s.targetRead r).2.log ⟨.rd, a, (s.targetRead r).1⟩)

/-- `MemWrite(a, 4, v)` (R72): recorded in TRACE whether or not the target lets it take effect; `none` outside the map. -/
def State.memWrite (s : State) (a v : Word) : Option State :=
  match s.cfg.regAt a with
  | none => none
  | some r => some ((s.log ⟨.wr, a, v⟩).targetWrite r v)

/-! ## Fault entry (spec/60_exceptions.md R231, R232) -/

/-- FCODE of OWNERSHIP_TAKEN (R231). -/
def ownershipTaken : BitVec 2 := 1#2

/-- `raise Fault(code)` (R232): `FAULT <- 1; FCODE <- code; SEQ <- HALT`, nothing else. -/
def State.raise (s : State) (code : BitVec 2) : State := { s with fault := true, fcode := code, seq := Seq.halt }

/-! ## Commands (spec/40_commands.md section 2) -/

/-- The outcome of a meaning. -/
abbrev Result := Host.Outcome State Fault Refusal

/-- A next state carried on; a fault or a refusal stands. -/
def onNext (o : Result) (f : State → State) : Result :=
  match o with
  | .next s => .next (f s)
  | .fault r => .fault r
  | .refused r => .refused r

/-- ACQUIRE (R151). -/
def State.acquire (s : State) : Result :=
  if s.owned then .next (s.raise ownershipTaken) else .next s.grant

/-- Acceptance of BRINGUP (R152), the tests in the order written (R237). -/
def State.acceptBringup (s : State) (f : Word) : Result :=
  if !s.owned then .refused .noHandle
  else if f.toNat ≤ s.cfg.targetBaudHz then .refused .clockOutOfRange
  else .next ((s.latchClock f (s.cfg.divisor f)).setSeq Seq.bu01)

/-- Acceptance of WRITE (R153), the tests in the order written (R237). A channel that is not enabled: with a word to push,
the model admits the spinning run that R153 allows in place of the refusal; an empty sequence has no such run and is refused
(notes/assumptions/11.md). -/
def State.acceptWrite (s : State) (ch : Chan) (bytes : List Byte) : Result :=
  if !s.owned then .refused .noHandle
  else if s.cfg.nChannels ≤ ch.toNat then .refused .badChannel
  else if wordCount bytes.length = 0 then
    (if s.channelEnabled ch then .next ((s.latchWrite ch bytes).setSeq Seq.idle) else .refused .channelNotEnabled)
  else .next ((s.latchWrite ch bytes).setSeq Seq.wrPoll)

/-! ## The six classes of micro-operation (spec/30_encoding.md R124) -/

/-- WR-const and WR-reg: `MemWrite(a, 4, v); SEQ <- n`. -/
def State.writeThen (s : State) (a v : Word) (n : BitVec 5) : Result :=
  match s.memWrite a v with
  | none => .refused .unmapped
  | some s1 => .next (s1.setSeq n)

/-- The two RMW classes: `t <- MemRead(a, 4); MemWrite(a, 4, f t); SEQ <- n`. -/
def State.modifyThen (s : State) (a : Word) (f : Word → Word) (n : BitVec 5) : Result :=
  match s.memRead a with
  | none => .refused .unmapped
  | some (t, s1) => s1.writeThen a (f t) n

/-- RMW-set: the idempotent OR. -/
def State.rmwSet (s : State) (a m : Word) (n : BitVec 5) : Result := s.modifyThen a (fun t => t ||| m) n

/-- RMW-clear: AND with the complement. -/
def State.rmwClear (s : State) (a m : Word) (n : BitVec 5) : Result := s.modifyThen a (fun t => t &&& ~~~m) n

/-- POLL (R124, spec/42_stimulus_writer.md R201): one read, and a branch on the one bit under STIM_READY_MASK. -/
def State.poll (s : State) : Result :=
  match s.memRead (s.cfg.stimAddr s.ch) with
  | none => .refused .unmapped
  | some (w, s1) => .next (s1.setSeq (if (w &&& s.cfg.stimReadyMask) != 0 then Seq.wrPush else Seq.wrPoll))

/-- PUSH (R124, R202): the test uses the incremented IDX. -/
def State.push (s : State) : Result :=
  match s.memWrite (s.cfg.stimAddr s.ch) (wordAt s.buf s.len s.idx) with
  | none => .refused .unmapped
  | some s1 => .next ((s1.setIdx (s.idx + 1)).setSeq (if s.idx + 1 = s.nwords then Seq.idle else Seq.wrPoll))

/-! ## The environment -/

/-- The drain step on a channel (spec/20_memory.md R92); a drain of an empty FIFO is no step of the drain and changes
nothing. -/
def State.drain (s : State) (ch : Chan) : State :=
  match s.fifoAt ch with
  | [] => s
  | w :: q => (s.setFifo ch q).addEmit ch w

/-- The queues a reset in the middle of a run leaves: unspecified words, at most FIFO_DEPTH in each channel that exists. -/
def relaunchFifo (c : Cfg) (fifo : Vector (List Word) 32) : Vector (List Word) 32 :=
  Vector.ofFn fun i => if i.val < c.nChannels then fifo[i].take c.fifoDepth else []

/-- The external reset (spec/70_reset_and_hazards.md R260, R261): controller and driver take their reset values, a command in
progress is abandoned, the target is a fresh launch state with unspecified registers, lock flags and FIFO contents, EMIT and
TRACE are empty (R58). The configuration and the inputs are not TSIC's and stay (notes/assumptions/7.md). -/
def State.externalReset (s : State) : State :=
  { State.launch s.cfg s.clockHzIn (Config.relaunch s.fresh).regs with
    locks := (Config.relaunch s.fresh).locks
    fifo := relaunchFifo s.cfg (Config.relaunch s.fresh).fifo
    source := s.source
    env := s.env
    fresh := s.fresh + 1 }

/-- The environment's next choice, and the state once it is made: the head of `env`, or a free value after its end. -/
def State.nextChoice (s : State) : EnvAction × State :=
  match s.env with
  | e :: rest => (e, { s with env := rest })
  | [] => (Config.envChoice s.fresh, s.useFresh)

end Sys2Proof.Machine
end

