-- ==== Sys2Proof/Machine/Bringup.lean ====
section
/-! DEFINITION. The fourteen bring-up micro-operations (spec/41_bringup_sequence.md R171 to R184). -/

namespace Sys2Proof.Machine

/-- BU01 (R171): RMW-set of the global trace-enable bit. -/
def execBu01 (s : State) : Result := s.rmwSet s.cfg.aDbgen s.cfg.dbgenTraceMask Seq.bu02

/-- BU02 (R172): unlock the formatter. -/
def execBu02 (s : State) : Result := s.writeThen s.cfg.aFmtLock s.cfg.key Seq.bu03

/-- BU03 (R173): the 1-bit encoding width. -/
def execBu03 (s : State) : Result := s.writeThen s.cfg.aFmtWidth s.cfg.fmtWidth1Bit Seq.bu04

/-- BU04 (R174): the clock divisor, from DIV. -/
def execBu04 (s : State) : Result := s.writeThen s.cfg.aFmtDiv s.div Seq.bu05

/-- BU05 (R175): the single-wire port mode. -/
def execBu05 (s : State) : Result := s.writeThen s.cfg.aFmtMode s.cfg.fmtModeValue Seq.bu06

/-- BU06 (R176): RMW-clear of the continuous-formatting flag. -/
def execBu06 (s : State) : Result := s.rmwClear s.cfg.aFmtFrame s.cfg.fmtContMask Seq.bu07

/-- BU07 (R177): unlock the sync source. -/
def execBu07 (s : State) : Result := s.writeThen s.cfg.aSyncLock s.cfg.key Seq.bu08

/-- BU08 (R178): the sync source's control pattern. -/
def execBu08 (s : State) : Result := s.writeThen s.cfg.aSyncCtrl s.cfg.syncCtrlValue Seq.bu09

/-- BU09 (R179): unlock the instrumentation unit. -/
def execBu09 (s : State) : Result := s.writeThen s.cfg.aItmLock s.cfg.key Seq.bu10

/-- BU10 (R180): the trace-privilege register. -/
def execBu10 (s : State) : Result := s.writeThen s.cfg.aItmPriv s.cfg.itmPrivValue Seq.bu11

/-- BU11 (R181): the global enable register. -/
def execBu11 (s : State) : Result := s.writeThen s.cfg.aItmCtrl s.cfg.itmCtrlValue Seq.bu12

/-- BU12 (R182): channel 0 and no other. -/
def execBu12 (s : State) : Result := s.writeThen s.cfg.aItmChen channelZeroMask Seq.bu13

/-- BU13 (R183): RMW-clear of the previous trace-output routing. -/
def execBu13 (s : State) : Result := s.rmwClear s.cfg.aDbgctl s.cfg.dbgctlClearMask Seq.bu14

/-- BU14 (R184): RMW-set of trace I/O enable, asynchronous mode adding no bit (spec/30_encoding.md R132); the last step. -/
def execBu14 (s : State) : Result := s.rmwSet s.cfg.aDbgctl s.cfg.dbgctlSet Seq.idle

end Sys2Proof.Machine
end

