-- ==== Sys2Proof/Machine/Commands.lean ====
section
/-! DEFINITION. The four commands of format CMD (spec/40_commands.md R151 to R154). When a command may be presented (R150) is
said once, where the machine fetches (Machine/Fetch.lean). -/

namespace Sys2Proof.Machine

/-- NONE (R154): no state changes and no bus transaction occurs. -/
def execNone (s : State) : Result := .next s

/-- ACQUIRE (R151). -/
def execAcquire (s : State) : Result := s.acquire

/-- BRINGUP (R152). -/
def execBringup (clockHz : Word) (s : State) : Result := s.acceptBringup clockHz

/-- WRITE (R153). -/
def execWrite (channel : Chan) (bytes : List Byte) (s : State) : Result := s.acceptWrite channel bytes

end Sys2Proof.Machine
end

