-- ==== Sys2Proof/Machine/Driver.lean ====
section
/-! DEFINITION. The two driver states (spec/43_driving_loop.md R221, R222). A driver step presents a command, and the controller
performs that command's rule in the same step (spec/40_commands.md R150). -/

namespace Sys2Proof.Machine

/-- DRV_INIT (R221): ACQUIRE, then BRINGUP(CLOCK_HZ_IN) with the move to RUN. An ACQUIRE that faults changes nothing but the
fault state (R230, R232), so the driver's phase stays too (notes/assumptions/13.md). -/
def execDrvInit (s : State) : Result :=
  if s.dphase = 0#1 then
    (if s.owned then s.acquire else onNext s.acquire fun t => t.setDriver t.dstate 1#1)
  else onNext (s.acceptBringup s.clockHzIn) fun t => t.setDriver 1#1 0#1

/-- DRV_RUN (R222): WRITE of the payload on channel 0, then the counter. -/
def execDrvRun (s : State) : Result :=
  if s.dphase = 0#1 then
    onNext (s.acceptWrite 0#5 (s.cfg.payloadBytes s.cnt)) fun t => t.setDriver t.dstate 1#1
  else .next ((s.setCnt (nextCount s.cnt)).setDriver s.dstate 0#1)

end Sys2Proof.Machine
end

