-- ==== Sys2Proof/Machine/Writer.lean ====
section
/-! DEFINITION. The two stimulus writer micro-operations (spec/42_stimulus_writer.md R201, R202). -/

namespace Sys2Proof.Machine

/-- WR_POLL (R201). -/
def execWrPoll (s : State) : Result := s.poll

/-- WR_PUSH (R202). -/
def execWrPush (s : State) : Result := s.push

end Sys2Proof.Machine
end

