-- ==== Sys2Proof/Machine/Dispatch.lean ====
section
/-! DEFINITION. One arm per operation. -/

namespace Sys2Proof.Machine

def exec (i : Instr) (s : State) : Host.Outcome State Fault Refusal :=
  match i with
  | .none => Sys2Proof.Machine.execNone s
  | .acquire => Sys2Proof.Machine.execAcquire s
  | .bringup clockHz => Sys2Proof.Machine.execBringup clockHz s
  | .write channel bytes => Sys2Proof.Machine.execWrite channel bytes s
  | .bu01 => Sys2Proof.Machine.execBu01 s
  | .bu02 => Sys2Proof.Machine.execBu02 s
  | .bu03 => Sys2Proof.Machine.execBu03 s
  | .bu04 => Sys2Proof.Machine.execBu04 s
  | .bu05 => Sys2Proof.Machine.execBu05 s
  | .bu06 => Sys2Proof.Machine.execBu06 s
  | .bu07 => Sys2Proof.Machine.execBu07 s
  | .bu08 => Sys2Proof.Machine.execBu08 s
  | .bu09 => Sys2Proof.Machine.execBu09 s
  | .bu10 => Sys2Proof.Machine.execBu10 s
  | .bu11 => Sys2Proof.Machine.execBu11 s
  | .bu12 => Sys2Proof.Machine.execBu12 s
  | .bu13 => Sys2Proof.Machine.execBu13 s
  | .bu14 => Sys2Proof.Machine.execBu14 s
  | .wrPoll => Sys2Proof.Machine.execWrPoll s
  | .wrPush => Sys2Proof.Machine.execWrPush s
  | .drvInit => Sys2Proof.Machine.execDrvInit s
  | .drvRun => Sys2Proof.Machine.execDrvRun s

end Sys2Proof.Machine
end

