-- ==== Sys2Proof/Machine/Fetch.lean ====
section
/-! DEFINITION. Which instruction comes next (spec/40_commands.md R150): the micro-operation SEQ names while the controller is
busy, the command source's action while SEQ is IDLE and FAULT is 0, none otherwise. -/

namespace Sys2Proof.Machine

/-- What the controller and the driver have to do next. -/
inductive Fetched where
  /-- An instruction, and the state it runs in. -/
  | run (i : Instr) (s : State)
  /-- Neither has a step. -/
  | nothing
  /-- SEQ holds a reserved code (R135). -/
  | reserved
  deriving DecidableEq, Repr

/-- The command source's next action: the driver's state, or the next record of another host, which presents NONE when it has
no record left (R121, R154, R220). -/
def State.fetchCommand (s : State) : Instr × State :=
  match s.source with
  | .driver => (decodeDrv s.dstate, s)
  | .host [] => (.none, s)
  | .host (r :: rest) => (decodeCmd r, { s with source := .host rest })

/-- The fetch. -/
def State.fetch (s : State) : Fetched :=
  if s.accepting then .run s.fetchCommand.1 s.fetchCommand.2
  else match decodeUop s.seq with
    | .ok i => .run i s
    | .error (.reservedCode _) => .reserved
    | .error .idleCode => .nothing
    | .error .haltCode => .nothing

/-- The environment lets the machine move next. -/
def State.withProceed (s : State) : State :=
  match s.env with
  | .proceed :: _ => s
  | e => { s with env := .proceed :: e }

/-- The state with a raw form placed where the fetch finds it (notes/assumptions/10.md): a command record with another host
that presents it, a SEQ code in SEQ, a driver state in DSTATE. -/
def State.withRaw (s : State) : Raw → State
  | .cmd r => { s.withProceed with source := .host [r], seq := Seq.idle, fault := false }
  | .uop q => { s.withProceed with seq := q }
  | .drv d => { s.withProceed with source := .driver, seq := Seq.idle, fault := false, dstate := d }

/-- `withRaw` of the raw form a table word stands for; a word that stands for none is placed as a reserved SEQ code. -/
def State.placeTableWord (s : State) (nbits w : Nat) : State :=
  match rawOfTableWord nbits w with
  | some r => s.withRaw r
  | none => s.withRaw (.uop 0x0F#5)

end Sys2Proof.Machine
end

