-- ==== Sys2Proof/Machine/Step.lean ====
section
/-! DEFINITION. One step of the machine: the environment chooses who moves (spec/00_scope.md R7, spec/20_memory.md R92,
spec/70_reset_and_hazards.md R260); when it lets the machine move, the fetched instruction is executed. -/

namespace Sys2Proof.Machine

/-- The controller's or the driver's step (spec/40_commands.md R150). -/
def proceed (s : State) : Host.Outcome State Fault Refusal :=
  match s.fetch with
  | .run i t => exec i t
  | .nothing => .fault .halted
  | .reserved => .refused .badSeq

/-- One step. A configuration that breaks R9 is refused (spec/20_memory.md R75). -/
def step (s : State) : Host.Outcome State Fault Refusal :=
  if s.cfg.ok then
    match s.nextChoice with
    | (.proceed, t) => proceed t
    | (.drain ch, t) => .next (t.drain ch)
    | (.reset, t) => .next t.externalReset
  else .refused .badCfg

/-- The state with a table word placed where the next step fetches it (notes/assumptions/10.md). -/
def State.withFetchWord (s : State) (nbits w : Nat) : State := s.placeTableWord nbits w

end Sys2Proof.Machine
end

