-- ==== Sys2Proof/Safety.lean ====
section
/-! DEFINITION. The terms claims use: the constraints R9, the observation and the snapshot (spec/00_scope.md R14,
spec/41_bringup_sequence.md R186), the invariant of the machine, the words pushed and emitted on a channel, the rows of R123,
the sequences of operations and the schedules that claims run. -/

namespace Sys2Proof

/-- The constraints of spec/00_scope.md R9, (a) to (h), each in the rule's own terms, with the type R8 gives TARGET_BAUD_HZ.
`Cfg.ok` is the test of them that the step makes. -/
structure Cfg.MeetsR9 (c : Cfg) : Prop where
  /-- (a) Every address is a multiple of 4. -/
  aligned : ∀ a ∈ [c.aDbgen, c.aFmtLock, c.aFmtWidth, c.aFmtDiv, c.aFmtMode, c.aFmtFrame, c.aSyncLock, c.aSyncCtrl, c.aItmLock,
    c.aItmPriv, c.aItmCtrl, c.aItmChen, c.aDbgctl, c.aStimBase], a.toNat % 4 = 0
  /-- (a) The last stimulus address is below 2^32. -/
  portsFit : c.aStimBase.toNat + 4 * (c.nChannels - 1) < 2 ^ 32
  /-- (b) The thirteen registers stand at thirteen addresses. -/
  registersDistinct : [c.aDbgen, c.aFmtLock, c.aFmtWidth, c.aFmtDiv, c.aFmtMode, c.aFmtFrame, c.aSyncLock, c.aSyncCtrl,
    c.aItmLock, c.aItmPriv, c.aItmCtrl, c.aItmChen, c.aDbgctl].Nodup
  /-- (b) No register stands at a stimulus address. -/
  portsDistinct : ∀ a ∈ [c.aDbgen, c.aFmtLock, c.aFmtWidth, c.aFmtDiv, c.aFmtMode, c.aFmtFrame, c.aSyncLock, c.aSyncCtrl,
    c.aItmLock, c.aItmPriv, c.aItmCtrl, c.aItmChen, c.aDbgctl], ∀ ch < c.nChannels, a.toNat ≠ c.aStimBase.toNat + 4 * ch
  /-- (c) The baud is at least 1 (and fits its type, R8). -/
  baud : 1 ≤ c.targetBaudHz ∧ c.targetBaudHz < 2 ^ 32
  /-- (d) There are 8 to 32 channels. -/
  channels : 8 ≤ c.nChannels ∧ c.nChannels ≤ 32
  /-- (e) A FIFO holds at least one word. -/
  depth : 1 ≤ c.fifoDepth
  /-- (f) The mode mask is a subset of the clear mask. -/
  modeInClear : c.dbgctlModeMask &&& ~~~c.dbgctlClearMask = 0#32
  /-- (f) The IOEN mask has no bit in common with the mode mask. -/
  ioenApart : c.dbgctlIoenMask &&& c.dbgctlModeMask = 0#32
  /-- (g) Four masks have exactly one bit set. -/
  oneBit : ∀ m ∈ [c.dbgenTraceMask, c.fmtContMask, c.stimReadyMask, c.dbgctlIoenMask], ∃ k < 32, m = BitVec.twoPow 32 k
  /-- (h) ITM_EN_INSTR is nonzero. -/
  instr : c.itmEnInstr ≠ 0#32

namespace Machine

/-- What a claim may speak of (R14): TRACE, the target registers and lock flags, EMIT, FAULT, and whether the controller is
idle. -/
structure Observation where
  trace : List BusTxn
  regs : TargetRegs
  locks : LockFlags
  emit : List (Chan × Word)
  fault : Bool
  idle : Bool
  deriving DecidableEq, Repr

/-- The observation of a state (R14). -/
def State.observe (s : State) : Observation := ⟨s.trace, s.regs, s.locks, s.emit, s.fault, s.seq == Seq.idle⟩

/-- The snapshot of R186: every REG[a] and the three lock flags. -/
def State.snapshot (s : State) : TargetRegs × LockFlags := (s.regs, s.locks)

/-- The eighteen named codes of SEQ (spec/30_encoding.md R123). -/
def legalSeqs : List (BitVec 5) := [Seq.idle, Seq.halt] ++ uopTable.map Prod.fst

/-- SEQ names a bring-up micro-operation. -/
def State.inBringup (s : State) : Bool := decide (1 ≤ s.seq.toNat) && decide (s.seq.toNat ≤ 14)

/-- SEQ names a writer micro-operation. -/
def State.inWriter (s : State) : Bool := s.seq == Seq.wrPoll || s.seq == Seq.wrPush

/-- What holds of every state a run reaches, whatever the configuration (meeting R9), the launch values, the command source
and the environment. -/
structure State.Inv (s : State) : Prop where
  /-- The configuration meets R9. -/
  cfgOk : s.cfg.ok = true
  /-- SEQ never holds a code outside the table (R22, R135). -/
  seqLegal : s.seq ∈ legalSeqs
  /-- FAULT is 1 exactly while SEQ is HALT (R23). -/
  faultHalt : s.fault = true ↔ s.seq = Seq.halt
  /-- FCODE is OWNERSHIP_TAKEN after the fault and 0 before (R231). -/
  faultCode : s.fcode = if s.fault then ownershipTaken else 0#2
  /-- Whoever is halted or busy holds the handle (R232, R152, R153). -/
  stoppedOrBusyOwned : s.seq ≠ Seq.idle → s.owned = true
  /-- No operation reads DIV before a BRINGUP has written it (R30). -/
  bringupHeld : s.inBringup = true → s.divHeld = true
  /-- DIV, once written, is the divisor of CLK, which is above the baud (R26, R152). -/
  divSound : s.divHeld = true → s.cfg.targetBaudHz < s.clk.toNat ∧ s.div = s.cfg.divisor s.clk
  /-- While the writer runs a WRITE has written its registers (R30) and a word is left to push (R29, R200). -/
  writerHeld : s.inWriter = true → s.writeHeld = true ∧ s.idx < s.nwords
  /-- CH is a channel, LEN the length of BUF, IDX at most NWORDS (R27 to R29). -/
  writeSound : s.ch.toNat < s.cfg.nChannels ∧ s.len = s.buf.length ∧ s.idx ≤ s.nwords
  /-- Between the ready poll and the push the port is ready (spec/42_stimulus_writer.md R204). -/
  pushReady : s.seq = Seq.wrPush → s.ready s.ch = true
  /-- A FIFO holds at most FIFO_DEPTH words, and a channel that does not exist holds none (R54). -/
  fifoBound : ∀ ch : Chan, (s.fifoAt ch).length ≤ if ch.toNat < s.cfg.nChannels then s.cfg.fifoDepth else 0

/-- The words written to a channel's port, in order, as TRACE records them. -/
def stimWrites (c : Cfg) (ch : Chan) (tr : List BusTxn) : List Word :=
  (tr.filter fun t => t.dir = .wr ∧ t.addr = c.stimAddr ch).map BusTxn.data

/-- EMIT restricted to a channel (spec/20_memory.md R93). -/
def State.emittedOn (s : State) (ch : Chan) : List Word := (s.emit.filter fun p => p.1 = ch).map Prod.snd

/-- On every channel, what has left the FIFO followed by what is in it is what was written to the port (R93, R205). -/
def State.FlowInv (s : State) : Prop :=
  ∀ ch : Chan, ch.toNat < s.cfg.nChannels → s.emittedOn ch ++ s.fifoAt ch = stimWrites s.cfg ch s.trace

/-- The bring-up sequence (R170). -/
def bringUpOps : List Instr :=
  [.bu01, .bu02, .bu03, .bu04, .bu05, .bu06, .bu07, .bu08, .bu09, .bu10, .bu11, .bu12, .bu13, .bu14]

/-- The unlock operation of a block (R138). -/
def unlockOp : Block → Instr
  | .fmt => .bu02
  | .sync => .bu07
  | .itm => .bu09

/-- The register values R185 gives for the end of a bring-up from `init` with divisor `d`. -/
def bringUpFinal (c : Cfg) (init : TargetRegs) (d : Word) : TargetRegs where
  dbgen := init.dbgen ||| c.dbgenTraceMask
  fmtWidth := c.fmtWidth1Bit
  fmtDiv := d
  fmtMode := c.fmtModeValue
  fmtFrame := init.fmtFrame &&& ~~~c.fmtContMask
  syncCtrl := c.syncCtrlValue
  itmPriv := c.itmPrivValue
  itmCtrl := c.itmEnInstr ||| c.itmEnSync ||| c.itmEnTrace ||| c.itmEnSwo ||| c.itmTsprescaleField
  itmChen := 0x00000001#32
  dbgctl := (init.dbgctl &&& ~~~c.dbgctlClearMask) ||| c.dbgctlIoenMask

/-- The trace-privilege register replaced: what two states may differ in without any step telling them apart (R240). -/
def State.withPriv (s : State) (v : Word) : State := { s with regs := { s.regs with itmPriv := v } }

/-- Operations executed one after the other, whatever SEQ says: a command and its expansion (R138), or a shortened sequence
driven against the target model (R187). -/
def execAll : List Instr → State → Host.Outcome State Fault Refusal
  | [], s => .next s
  | i :: rest, s =>
    match exec i s with
    | .next t => execAll rest t
    | .fault r => .fault r
    | .refused r => .refused r

/-- The two transactions of a read-modify-write row: a read of an address, and a write to it of a function of the datum. -/
def readModifyWrite (a : Word) (f : Word → Word) (new : List BusTxn) : Prop :=
  ∃ v : Word, new = [⟨.rd, a, v⟩, ⟨.wr, a, f v⟩]

/-- The bus column of an operation's row (spec/30_encoding.md R123); commands and driver states never touch the bus
(spec/20_memory.md R70). The addresses and constants are written out from the table. -/
def busRow (s : State) (i : Instr) (new : List BusTxn) : Prop :=
  match i with
  | .none | .acquire | .bringup _ | .write _ _ | .drvInit | .drvRun => new = []
  | .bu01 => readModifyWrite s.cfg.aDbgen (fun t => t ||| s.cfg.dbgenTraceMask) new
  | .bu02 => new = [⟨.wr, s.cfg.aFmtLock, s.cfg.key⟩]
  | .bu03 => new = [⟨.wr, s.cfg.aFmtWidth, s.cfg.fmtWidth1Bit⟩]
  | .bu04 => new = [⟨.wr, s.cfg.aFmtDiv, s.div⟩]
  | .bu05 => new = [⟨.wr, s.cfg.aFmtMode, s.cfg.fmtModeValue⟩]
  | .bu06 => readModifyWrite s.cfg.aFmtFrame (fun t => t &&& ~~~s.cfg.fmtContMask) new
  | .bu07 => new = [⟨.wr, s.cfg.aSyncLock, s.cfg.key⟩]
  | .bu08 => new = [⟨.wr, s.cfg.aSyncCtrl, s.cfg.syncCtrlValue⟩]
  | .bu09 => new = [⟨.wr, s.cfg.aItmLock, s.cfg.key⟩]
  | .bu10 => new = [⟨.wr, s.cfg.aItmPriv, s.cfg.itmPrivValue⟩]
  | .bu11 => new = [⟨.wr, s.cfg.aItmCtrl, s.cfg.itmEnInstr ||| s.cfg.itmEnSync ||| s.cfg.itmEnTrace ||| s.cfg.itmEnSwo |||
      s.cfg.itmTsprescaleField⟩]
  | .bu12 => new = [⟨.wr, s.cfg.aItmChen, 0x00000001#32⟩]
  | .bu13 => readModifyWrite s.cfg.aDbgctl (fun t => t &&& ~~~s.cfg.dbgctlClearMask) new
  | .bu14 => readModifyWrite s.cfg.aDbgctl (fun t => t ||| s.cfg.dbgctlIoenMask) new
  | .wrPoll => ∃ v : Word, new = [⟨.rd, s.cfg.aStimBase + 4#32 * s.ch.setWidth 32, v⟩]
  | .wrPush => new = [⟨.wr, s.cfg.aStimBase + 4#32 * s.ch.setWidth 32, wordAt s.buf s.len s.idx⟩]

/-- The storage register an operation's row writes (R123). -/
def storageOf : Instr → Option StorageReg
  | .bu01 => some .dbgen
  | .bu03 => some .fmtWidth
  | .bu04 => some .fmtDiv
  | .bu05 => some .fmtMode
  | .bu06 => some .fmtFrame
  | .bu08 => some .syncCtrl
  | .bu10 => some .itmPriv
  | .bu11 => some .itmCtrl
  | .bu12 => some .itmChen
  | .bu13 | .bu14 => some .dbgctl
  | .bu02 | .bu07 | .bu09 | .wrPoll | .wrPush => none
  | .none | .acquire | .bringup _ | .write _ _ | .drvInit | .drvRun => none

/-- The block whose unlock register an operation's row writes (R123). -/
def lockOf : Instr → Option Block
  | .bu02 => some .fmt
  | .bu07 => some .sync
  | .bu09 => some .itm
  | .bu01 | .bu03 | .bu04 | .bu05 | .bu06 | .bu08 | .bu10 | .bu11 | .bu12 | .bu13 | .bu14 | .wrPoll | .wrPush => none
  | .none | .acquire | .bringup _ | .write _ _ | .drvInit | .drvRun => none

/-- The bus trace of a whole WRITE (spec/42_stimulus_writer.md R203): for each word any number of reads that find the ready
bit 0, one that finds it 1, and the write of the word, all at the port of the channel. -/
def pollsThenPush (c : Cfg) (ch : Chan) : List Word → List BusTxn → Prop
  | [], new => new = []
  | w :: ws, new => ∃ (reads : List BusTxn) (d : Word) (rest : List BusTxn),
      new = reads ++ [⟨.rd, c.stimAddr ch, d⟩, ⟨.wr, c.stimAddr ch, w⟩] ++ rest ∧
      (∀ x ∈ reads, x.dir = .rd ∧ x.addr = c.stimAddr ch ∧ x.data &&& c.stimReadyMask = 0#32) ∧
      d &&& c.stimReadyMask ≠ 0#32 ∧ pollsThenPush c ch ws rest

/-- The environment's next choice is not a reset. -/
def State.noResetNext (s : State) : Prop := s.nextChoice.1 ≠ .reset

/-- For each of `n` words a drain of the channel and then two moves of the machine. A schedule that holds these in this order,
whatever stands between, suffices for a WRITE of `n` words. It asks for a drain at every word, where the premise DRAIN_FAIR
(spec/20_memory.md R94) gives one only while the FIFO holds a word. -/
def fairRounds (ch : Chan) (n : Nat) : List EnvAction := (List.replicate n [.drain ch, .proceed, .proceed]).flatten

/-- A schedule of rounds with nothing but drains between: each round drains FIFOs, drains the given channel, and then lets the
machine move twice. -/
def drainFairRounds (ch : Chan) : List (List Chan) → List EnvAction
  | [] => []
  | ds :: rest => ds.map EnvAction.drain ++ [.drain ch, .proceed, .proceed] ++ drainFairRounds ch rest

end Machine

end Sys2Proof
end

