-- ==== Sys2Proof/Certificates/Slice0/Obligations.lean ====
section
/-! DEFINITION. The statements for the provers, from the numbered rules of spec/. SEQ codes are written as the numbers of
spec/30_encoding.md R123. -/

open Sys2Proof Sys2Proof.Machine

/-- The command codes and the driver codes decode as the tables give them (R122, R125). -/
def Obligations.CommandAndDriverCodesDecode : Prop :=
  (∀ r : CommandRecord,
    (r.cmd = 0b00#2 → decode (.cmd r) = .ok .none) ∧ (r.cmd = 0b01#2 → decode (.cmd r) = .ok .acquire) ∧
      (r.cmd = 0b10#2 → decode (.cmd r) = .ok (.bringup r.clockHz)) ∧
      (r.cmd = 0b11#2 → decode (.cmd r) = .ok (.write r.channel r.bytes)) ∧
      (r.cmd = 0b00#2 ∨ r.cmd = 0b01#2 ∨ r.cmd = 0b10#2 ∨ r.cmd = 0b11#2)) ∧
  decode (.drv 0#1) = .ok .drvInit ∧ decode (.drv 1#1) = .ok .drvRun

/-- The SEQ codes decode to the sixteen micro-operations, and 0x0F and 0x12 to 0x1E to none (R123, R135). -/
def Obligations.SeqCodesDecode : Prop :=
  (decodeUop 0x01#5 = .ok .bu01 ∧ decodeUop 0x02#5 = .ok .bu02 ∧ decodeUop 0x03#5 = .ok .bu03 ∧
    decodeUop 0x04#5 = .ok .bu04 ∧ decodeUop 0x05#5 = .ok .bu05 ∧ decodeUop 0x06#5 = .ok .bu06 ∧
    decodeUop 0x07#5 = .ok .bu07 ∧ decodeUop 0x08#5 = .ok .bu08 ∧ decodeUop 0x09#5 = .ok .bu09 ∧
    decodeUop 0x0A#5 = .ok .bu10 ∧ decodeUop 0x0B#5 = .ok .bu11 ∧ decodeUop 0x0C#5 = .ok .bu12 ∧
    decodeUop 0x0D#5 = .ok .bu13 ∧ decodeUop 0x0E#5 = .ok .bu14 ∧ decodeUop 0x10#5 = .ok .wrPoll ∧
    decodeUop 0x11#5 = .ok .wrPush) ∧
  decodeUop 0x00#5 = .error .idleCode ∧ decodeUop 0x1F#5 = .error .haltCode ∧
  ∀ q : BitVec 5, decodeUop q = .error (.reservedCode q) ↔ (q = 0x0F#5 ∨ (0x12 ≤ q.toNat ∧ q.toNat ≤ 0x1E))

/-- Decoding the encoding of any operation gives it back, every operand included (R121, R122, R123, R125). -/
def Obligations.DecodeOfEncodeIsTheInstruction : Prop :=
  ∀ i : Instr, decode (encode i) = .ok i

/-- A code that decodes to an operation is that operation's code (R121, R122, R123, R125). -/
def Obligations.EveryCodeHasOneMeaning : Prop :=
  (∀ (q : BitVec 5) (i : Instr), decodeUop q = .ok i → encode i = .uop q) ∧
  (∀ d : BitVec 1, encode (decodeDrv d) = .drv d) ∧
  (∀ r : CommandRecord, ∃ p : CommandRecord, encode (decodeCmd r) = .cmd p ∧ p.cmd = r.cmd ∧
    (r.cmd = 0b10#2 → p.clockHz = r.clockHz) ∧ (r.cmd = 0b11#2 → p.channel = r.channel ∧ p.bytes = r.bytes))

/-- When the machine moves and SEQ decodes to a micro-operation, the step is that micro-operation (R150, R123). That the
environment's choices are a list in State is the model's (log entry 5). -/
def Obligations.StepRunsTheMicroOperationSeqNames : Prop :=
  ∀ (s u : State) (i : Instr), s.cfg.ok = true → s.nextChoice = (.proceed, u) → decodeUop s.seq = .ok i →
    step s = exec i u ∧ u = { s with env := s.env.tail, fresh := u.fresh } ∧ (s.env ≠ [] → u.fresh = s.fresh)

/-- When the machine moves, SEQ is IDLE and FAULT is 0, the command source acts (another host's list of records: the model's
choice, log entry 8) (R150, R220, R154, R7). That another host is a list of records, and that one with no record left
presents NONE, is the model's choice (log entry 8). -/
def Obligations.StepPresentsTheSourcesCommand : Prop :=
  ∀ (s u : State), s.cfg.ok = true → s.nextChoice = (.proceed, u) → s.seq = 0x00#5 → s.fault = false →
    (s.source = .driver → step s = exec (decodeDrv s.dstate) u) ∧
    (∀ r rest, s.source = .host (r :: rest) → step s = exec (decodeCmd r) { u with source := .host rest }) ∧
    (s.source = .host [] → step s = .next u)

/-- From HALT a step of the controller or the driver does not exist (R150, R232, R233). That the missing step is the fault
halted is the model's choice (log entry 12). -/
def Obligations.NeitherControllerNorDriverMovesFromHalt : Prop :=
  ∀ s : State, s.cfg.ok = true → s.seq = 0x1F#5 → s.nextChoice.1 = .proceed → step s = .fault .halted

/-- A configuration is accepted exactly if it meets each constraint of R9; a step under any other is refused, bad_cfg (R75,
R9, R8). -/
def Obligations.BadConfigurationIsRefused : Prop :=
  (∀ c : Cfg, c.ok = true ↔ c.MeetsR9) ∧
  (∀ s : State, ¬ s.cfg.MeetsR9 → step s = .refused .badCfg) ∧
  (∀ s : State, s.cfg.ok = false → step s = .refused .badCfg)

/-- A step from a reserved SEQ code is refused, bad_seq (R135). -/
def Obligations.ReservedSeqCodeIsRefused : Prop :=
  ∀ s : State, s.cfg.ok = true → (s.seq = 0x0F#5 ∨ (0x12 ≤ s.seq.toNat ∧ s.seq.toNat ≤ 0x1E)) →
    s.nextChoice.1 = .proceed → step s = .refused .badSeq

/-- The external reset gives controller and driver their reset values, in any state (R260, R261, R58, R54). That the command
source and the inputs stay, and how TRACE, EMIT and the FIFOs stand after a reset in the middle of a run, is the model's
choice (log entry 7). -/
def Obligations.ExternalResetGivesTheResetValues : Prop :=
  ∀ s : State, s.cfg.ok = true → s.nextChoice.1 = .reset →
    ∃ t, step s = .next t ∧ t.owned = false ∧ t.seq = 0x00#5 ∧ t.fault = false ∧ t.fcode = 0#2 ∧ t.dstate = 0#1 ∧
      t.dphase = 0#1 ∧ t.cnt = 0#8 ∧ t.divHeld = false ∧ t.writeHeld = false ∧ t.trace = [] ∧ t.emit = [] ∧
      t.cfg = s.cfg ∧ t.clockHzIn = s.clockHzIn ∧ t.source = s.source ∧
      ∀ ch : Chan, (t.fifoAt ch).length ≤ s.cfg.fifoDepth

/-- After reset every piece of state has the value of R58's table (R58, R50, R31). That the driver is the command source
(log entry 8) and that the six registers R58 gives none are zero or empty (log entry 3) are the model's choices. -/
def Obligations.LaunchStateHasTheResetValues : Prop :=
  (∀ (c : Cfg) (f : Word) (init : TargetRegs),
    let s := State.launch c f init
    s.owned = false ∧ s.seq = 0x00#5 ∧ s.fault = false ∧ s.fcode = 0#2 ∧ s.divHeld = false ∧ s.writeHeld = false ∧
      s.clk = 0#32 ∧ s.div = 0#32 ∧ s.ch = 0#5 ∧ s.buf = [] ∧ s.len = 0 ∧ s.idx = 0 ∧
      s.dstate = 0#1 ∧ s.dphase = 0#1 ∧ s.cnt = 0#8 ∧ s.regs = init ∧ s.locks.fmt = true ∧ s.locks.sync = true ∧
      s.locks.itm = true ∧ (∀ ch, s.fifoAt ch = []) ∧ s.emit = [] ∧ s.trace = [] ∧ s.source = .driver ∧ s.cfg = c ∧
      s.clockHzIn = f) ∧
  ∃ c f init, State.reset = State.launch c f init

/-- NONE changes no state and makes no bus transaction (R154). -/
def Obligations.NoneChangesNothing : Prop :=
  ∀ s : State, exec .none s = .next s

/-- ACQUIRE grants the handle once; a second one takes the fault OWNERSHIP_TAKEN (R151, R232). -/
def Obligations.AcquireIsTakeOnce : Prop :=
  ∀ s : State,
    (s.owned = false → exec .acquire s = .next { s with owned := true }) ∧
    (s.owned = true → exec .acquire s = .next { s with fault := true, fcode := 1#2, seq := 0x1F#5 })

/-- BRINGUP with the handle and a clock above the baud latches CLK and DIV and starts at BU01 (R152). -/
def Obligations.BringupIsAcceptedAboveTheBaud : Prop :=
  ∀ (s : State) (f : Word),
    (s.owned = true → s.cfg.targetBaudHz < f.toNat →
      exec (.bringup f) s = .next { s with
        clk := f, div := BitVec.ofNat 32 (f.toNat / s.cfg.targetBaudHz - 1), divHeld := true, seq := 0x01#5 }) ∧
    (s.owned = false → exec (.bringup f) s = .refused .noHandle) ∧
    (s.owned = true → f.toNat ≤ s.cfg.targetBaudHz → exec (.bringup f) s = .refused .clockOutOfRange)

/-- The divisor is f / TARGET_BAUD_HZ - 1 exactly, by floor division (R128). -/
def Obligations.DivisorIsExact : Prop :=
  (∀ (c : Cfg) (f : Word), c.ok = true → c.targetBaudHz < f.toNat →
    1 ≤ f.toNat / c.targetBaudHz ∧ (c.divisor f).toNat = f.toNat / c.targetBaudHz - 1 ∧
      ((c.divisor f).toNat + 1) * c.targetBaudHz ≤ f.toNat ∧ f.toNat < ((c.divisor f).toNat + 2) * c.targetBaudHz) ∧
  (∀ c : Cfg, c.targetBaudHz = 1000000 → c.divisor 8000000#32 = 7#32)

/-- WRITE with the handle to an enabled channel latches its operands; an empty one completes at once (R153). -/
def Obligations.WriteIsAcceptedOnAnEnabledChannel : Prop :=
  ∀ (s : State) (ch : Chan) (bytes : List Byte),
    (s.owned = true → ch.toNat < s.cfg.nChannels → s.channelEnabled ch = true →
      exec (.write ch bytes) s = .next { s with
        ch := ch, buf := bytes, len := bytes.length, idx := 0, writeHeld := true,
        seq := if bytes = [] then 0x00#5 else 0x10#5 }) ∧
    (s.owned = false → exec (.write ch bytes) s = .refused .noHandle) ∧
    (s.owned = true → s.cfg.nChannels ≤ ch.toNat → exec (.write ch bytes) s = .refused .badChannel)

/-- WRITE to a channel that is not enabled polls for ever and pushes nothing (the model's choice, log entry 11) (R153, R87,
R201, R222). -/
def Obligations.WriteToADisabledChannelNeverPushes : Prop :=
  (∀ (s : State) (ch : Chan) (bytes : List Byte),
    s.owned = true → ch.toNat < s.cfg.nChannels → s.channelEnabled ch = false →
      (bytes ≠ [] → exec (.write ch bytes) s = .next { s with
        ch := ch, buf := bytes, len := bytes.length, idx := 0, writeHeld := true, seq := 0x10#5 }) ∧
      (bytes = [] → exec (.write ch bytes) s = .refused .channelNotEnabled)) ∧
  (∀ s : State, s.Inv → s.seq = 0x10#5 → s.channelEnabled s.ch = false → s.nextChoice.1 = .proceed →
    ∃ t, step s = .next t ∧ t.seq = 0x10#5 ∧ t.ch = s.ch ∧ t.idx = s.idx ∧ t.regs = s.regs ∧ t.fifo = s.fifo ∧
      t.emit = s.emit ∧ t.channelEnabled t.ch = false) ∧
  (∀ s : State, s.dphase = 0#1 → s.owned = true → 0 < s.cfg.nChannels → s.channelEnabled 0#5 = false →
    exec .drvRun s = .next { s with
      ch := 0#5, buf := List.replicate 8 (s.cfg.payloadByte s.cnt), len := 8, idx := 0, writeHeld := true,
      seq := 0x10#5, dphase := 1#1 })

/-- BU01 reads DBGEN and writes it back with the trace-enable bit set, whatever gate and locks (R171). -/
def Obligations.GlobalTraceEnableIsOredIn : Prop :=
  ∀ s : State, s.cfg.ok = true →
    let v := s.regs.dbgen ||| s.cfg.dbgenTraceMask
    let t := { s with
      trace := s.trace ++ [⟨.rd, s.cfg.aDbgen, s.regs.dbgen⟩, ⟨.wr, s.cfg.aDbgen, v⟩],
      regs := { s.regs with dbgen := v }, seq := 0x02#5 }
    exec .bu01 s = .next t ∧ t.traceEnabled = true ∧ t.gate = true

/-- BU02, BU07, BU09 write KEY to the block's unlock register and clear its lock flag when the gate is open (R172, R177,
R179). -/
def Obligations.UnlockOperationsWriteTheKey : Prop :=
  ∀ s : State, s.cfg.ok = true →
    exec .bu02 s = .next { s with
      trace := s.trace ++ [⟨.wr, s.cfg.aFmtLock, s.cfg.key⟩],
      locks := if s.gate then { s.locks with fmt := false } else s.locks, seq := 0x03#5 } ∧
    exec .bu07 s = .next { s with
      trace := s.trace ++ [⟨.wr, s.cfg.aSyncLock, s.cfg.key⟩],
      locks := if s.gate then { s.locks with sync := false } else s.locks, seq := 0x08#5 } ∧
    exec .bu09 s = .next { s with
      trace := s.trace ++ [⟨.wr, s.cfg.aItmLock, s.cfg.key⟩],
      locks := if s.gate then { s.locks with itm := false } else s.locks, seq := 0x0A#5 }

/-- BU03, BU05, BU08, BU10, BU11, BU12 overwrite one register with their constant (R173, R175, R178, R180, R181, R182). -/
def Obligations.ConstantOverwritesOfTheBlocks : Prop :=
  ∀ s : State, s.cfg.ok = true →
    let itmCtrlV := s.cfg.itmEnInstr ||| s.cfg.itmEnSync ||| s.cfg.itmEnTrace ||| s.cfg.itmEnSwo |||
      s.cfg.itmTsprescaleField
    exec .bu03 s = .next { s with
      trace := s.trace ++ [⟨.wr, s.cfg.aFmtWidth, s.cfg.fmtWidth1Bit⟩],
      regs := if s.gate ∧ s.locks.fmt = false then { s.regs with fmtWidth := s.cfg.fmtWidth1Bit } else s.regs,
      seq := 0x04#5 } ∧
    exec .bu05 s = .next { s with
      trace := s.trace ++ [⟨.wr, s.cfg.aFmtMode, s.cfg.fmtModeValue⟩],
      regs := if s.gate ∧ s.locks.fmt = false then { s.regs with fmtMode := s.cfg.fmtModeValue } else s.regs,
      seq := 0x06#5 } ∧
    exec .bu08 s = .next { s with
      trace := s.trace ++ [⟨.wr, s.cfg.aSyncCtrl, s.cfg.syncCtrlValue⟩],
      regs := if s.gate ∧ s.locks.sync = false then { s.regs with syncCtrl := s.cfg.syncCtrlValue } else s.regs,
      seq := 0x09#5 } ∧
    exec .bu10 s = .next { s with
      trace := s.trace ++ [⟨.wr, s.cfg.aItmPriv, s.cfg.itmPrivValue⟩],
      regs := if s.gate ∧ s.locks.itm = false then { s.regs with itmPriv := s.cfg.itmPrivValue } else s.regs,
      seq := 0x0B#5 } ∧
    exec .bu11 s = .next { s with
      trace := s.trace ++ [⟨.wr, s.cfg.aItmCtrl, itmCtrlV⟩],
      regs := if s.gate ∧ s.locks.itm = false then { s.regs with itmCtrl := itmCtrlV } else s.regs,
      seq := 0x0C#5 } ∧
    exec .bu12 s = .next { s with
      trace := s.trace ++ [⟨.wr, s.cfg.aItmChen, 0x00000001#32⟩],
      regs := if s.gate ∧ s.locks.itm = false then { s.regs with itmChen := 0x00000001#32 } else s.regs,
      seq := 0x0D#5 }

/-- BU04 writes DIV, all 32 bits, to the divisor register (R174). -/
def Obligations.DivisorRegisterTakesDiv : Prop :=
  (∀ s : State, s.cfg.ok = true →
    exec .bu04 s = .next { s with
      trace := s.trace ++ [⟨.wr, s.cfg.aFmtDiv, s.div⟩],
      regs := if s.gate ∧ s.locks.fmt = false then { s.regs with fmtDiv := s.div } else s.regs, seq := 0x05#5 }) ∧
  (∀ s : State, s.Inv → s.divHeld = true →
    s.div.toNat ≤ 2 ^ 32 - 2 ∧ (s.div = 0#32 ↔ s.clk.toNat < 2 * s.cfg.targetBaudHz))

/-- BU06 and BU13 read a register and write it back with the mask's bits cleared (R176, R183). -/
def Obligations.FlagClearsReadModifyWrite : Prop :=
  ∀ s : State, s.cfg.ok = true →
    let f := s.regs.fmtFrame &&& ~~~s.cfg.fmtContMask
    let d := s.regs.dbgctl &&& ~~~s.cfg.dbgctlClearMask
    exec .bu06 s = .next { s with
      trace := s.trace ++ [⟨.rd, s.cfg.aFmtFrame, s.regs.fmtFrame⟩, ⟨.wr, s.cfg.aFmtFrame, f⟩],
      regs := if s.gate ∧ s.locks.fmt = false then { s.regs with fmtFrame := f } else s.regs, seq := 0x07#5 } ∧
    exec .bu13 s = .next { s with
      trace := s.trace ++ [⟨.rd, s.cfg.aDbgctl, s.regs.dbgctl⟩, ⟨.wr, s.cfg.aDbgctl, d⟩],
      regs := { s.regs with dbgctl := d }, seq := 0x0E#5 }

/-- BU14 sets the IOEN bit in DBGCTL, leaves the mode field as it is, and ends the command (R184). -/
def Obligations.TraceIoEnableEndsTheBringup : Prop :=
  ∀ s : State, s.cfg.ok = true →
    let d := s.regs.dbgctl ||| s.cfg.dbgctlIoenMask
    exec .bu14 s = .next { s with
      trace := s.trace ++ [⟨.rd, s.cfg.aDbgctl, s.regs.dbgctl⟩, ⟨.wr, s.cfg.aDbgctl, d⟩],
      regs := { s.regs with dbgctl := d }, seq := 0x00#5 } ∧
    d &&& s.cfg.dbgctlModeMask = s.regs.dbgctl &&& s.cfg.dbgctlModeMask ∧
    ∀ t, exec .bu13 s = .next t → (t.regs.dbgctl ||| s.cfg.dbgctlIoenMask) &&& s.cfg.dbgctlModeMask = 0#32

/-- WR_POLL reads the status of CH once and branches on the ready bit alone (R201, R89). -/
def Obligations.PollReadsOnceAndBranches : Prop :=
  ∀ s : State, s.cfg.ok = true → s.ch.toNat < s.cfg.nChannels →
    exec .wrPoll s = .next { s with
      trace := s.trace ++ [⟨.rd, s.cfg.aStimBase + 4#32 * s.ch.setWidth 32, s.statusWord s.ch⟩],
      fresh := s.fresh + 1, seq := if s.ready s.ch then 0x11#5 else 0x10#5 } ∧
    (s.statusWord s.ch &&& s.cfg.stimReadyMask ≠ 0#32 ↔ s.ready s.ch = true) ∧
    s.statusWord s.ch &&& ~~~s.cfg.stimReadyMask = Config.draw s.fresh &&& ~~~s.cfg.stimReadyMask

/-- WR_PUSH writes Word(IDX) to the port of CH, advances IDX, and ends after the last word (R202, R88). -/
def Obligations.PushWritesTheNextWord : Prop :=
  ∀ s : State, s.cfg.ok = true → s.ch.toNat < s.cfg.nChannels →
    let w := wordAt s.buf s.len s.idx
    exec .wrPush s = .next { s with
      trace := s.trace ++ [⟨.wr, s.cfg.aStimBase + 4#32 * s.ch.setWidth 32, w⟩],
      fifo := if s.ready s.ch then s.fifo.set s.ch.toNat (s.fifoAt s.ch ++ [w]) s.ch.isLt else s.fifo,
      idx := s.idx + 1, seq := if s.idx + 1 = (s.len + 3) / 4 then 0x00#5 else 0x10#5 }

/-- In every state of the invariant, the push is accepted: its word enters the FIFO (R204). -/
def Obligations.APushIsNeverLost : Prop :=
  ∀ (s : State) (ds : List Chan) (rest : List EnvAction), s.Inv → s.seq = 0x11#5 →
    s.env = ds.map EnvAction.drain ++ .proceed :: rest →
    ∃ t u : State, core.run ds.length s = .next t ∧ t.seq = 0x11#5 ∧ t.ready t.ch = true ∧ step t = .next u ∧
      u.fifoAt s.ch = t.fifoAt s.ch ++ [wordAt s.buf s.len s.idx] ∧
      u.trace = s.trace ++ [⟨.wr, s.cfg.stimAddr s.ch, wordAt s.buf s.len s.idx⟩]

/-- Word(i) holds byte 4i+j in bits 8j+7:8j, zero from LEN on, and NWORDS is LEN / 4 rounded up (R129, R130). -/
def Obligations.WordsAreLittleEndianAndZeroPadded : Prop :=
  ∀ buf : List Byte,
    buf.length ≤ 4 * wordCount buf.length ∧ (∀ n, buf.length ≤ 4 * n → wordCount buf.length ≤ n) ∧
    ∀ i j : Nat, i < wordCount buf.length → j < 4 →
      (wordAt buf buf.length i).extractLsb' (8 * j) 8 =
        if h : 4 * i + j < buf.length then buf[4 * i + j] else 0#8

/-- Unpacking the words low byte first and dropping the padding gives the bytes back (R205, R129, R206). -/
def Obligations.PackingRoundTrips : Prop :=
  ∀ buf : List Byte,
    (wordsOf buf).flatMap bytesOfWord = buf ++ List.replicate (4 * wordCount buf.length - buf.length) 0#8 ∧
      4 * wordCount buf.length - buf.length ≤ 3 ∧ (wordsOf buf).length = wordCount buf.length

/-- A FIFO full for the first N polls then drained: exactly N+1 polls, then the push (R203, R95, R200). -/
def Obligations.PollsUntilReadyThenPushesOnce : Prop :=
  ∀ (s : State) (n : Nat) (rest : List EnvAction), s.Inv → s.seq = 0x10#5 → s.channelEnabled s.ch = true →
    (s.fifoAt s.ch).length = s.cfg.fifoDepth →
    s.env = List.replicate n EnvAction.proceed ++ [.drain s.ch, .proceed, .proceed] ++ rest →
    ∃ (t : State) (reads : List BusTxn) (w : Word), core.run (n + 3) s = .next t ∧ reads.length = n ∧
      t.trace = s.trace ++ reads ++
        [⟨.rd, s.cfg.stimAddr s.ch, w⟩, ⟨.wr, s.cfg.stimAddr s.ch, wordAt s.buf s.len s.idx⟩] ∧
      (∀ x ∈ reads, x.dir = .rd ∧ x.addr = s.cfg.stimAddr s.ch ∧ x.data &&& s.cfg.stimReadyMask = 0#32) ∧
      w &&& s.cfg.stimReadyMask ≠ 0#32 ∧
      t.fifoAt s.ch = (s.fifoAt s.ch).tail ++ [wordAt s.buf s.len s.idx] ∧ t.idx = s.idx + 1 ∧ t.env = rest

/-- Under any reset-free schedule that for each word, in order, drains CH and then moves the machine twice, a WRITE
completes, each word pushed once (R94, R203, R155, R200, R205, R208). Asking for a drain at every word, full FIFO or not, is
more than DRAIN_FAIR of R94 asks. -/
def Obligations.WriteCompletesWhenDrainedForEachWord : Prop :=
  ∀ (s : State) (es : List EnvAction), s.Inv → s.seq = 0x10#5 → s.idx = 0 → s.channelEnabled s.ch = true →
    EnvAction.reset ∉ es → (fairRounds s.ch s.nwords).Sublist es → es <+: s.env →
    ∃ (k : Nat) (t : State) (new : List BusTxn), k ≤ es.length ∧ core.run k s = .next t ∧ t.seq = 0x00#5 ∧
      t.env = s.env.drop k ∧ t.regs = s.regs ∧ t.locks = s.locks ∧ t.trace = s.trace ++ new ∧
      pollsThenPush s.cfg s.ch (wordsOf s.buf) new ∧
      t.emittedOn s.ch ++ t.fifoAt s.ch = s.emittedOn s.ch ++ s.fifoAt s.ch ++ wordsOf s.buf ∧
      ∀ c : Chan, c ≠ s.ch → t.emittedOn c ++ t.fifoAt c = s.emittedOn c ++ s.fifoAt c

/-- The next word of a WRITE is pushed once the machine has moved twice, after a drain of CH if its FIFO is full, whatever
stands between (R94, R203, R200, R201, R202, R204). Where FIFO[CH] is full its drain stays enabled until it is taken, so
DRAIN_FAIR of R94 gives the drain asked for. -/
def Obligations.AWordIsPushedOnceAFullFifoIsDrained : Prop :=
  ∀ (s : State) (es : List EnvAction), s.Inv → s.seq = 0x10#5 → s.channelEnabled s.ch = true →
    EnvAction.reset ∉ es → [EnvAction.proceed, .proceed].Sublist es →
    ((s.fifoAt s.ch).length = s.cfg.fifoDepth → [EnvAction.drain s.ch, .proceed, .proceed].Sublist es) → es <+: s.env →
    ∃ (k : Nat) (t : State) (new : List BusTxn), k ≤ es.length ∧ core.run k s = .next t ∧
      t.seq = (if s.idx + 1 = s.nwords then 0x00#5 else 0x10#5) ∧ t.idx = s.idx + 1 ∧ t.env = s.env.drop k ∧
      t.regs = s.regs ∧ t.locks = s.locks ∧ t.trace = s.trace ++ new ∧
      pollsThenPush s.cfg s.ch [wordAt s.buf s.len s.idx] new ∧
      t.emittedOn s.ch ++ t.fifoAt s.ch = s.emittedOn s.ch ++ s.fifoAt s.ch ++ [wordAt s.buf s.len s.idx] ∧
      ∀ c : Chan, c ≠ s.ch → t.emittedOn c ++ t.fifoAt c = s.emittedOn c ++ s.fifoAt c

/-- In rounds of drains and two moves of the machine a WRITE completes in one round a word, at the end of the last (R94,
R155, R200, R205, R208). -/
def Obligations.WriteCompletesInDrainedRounds : Prop :=
  ∀ (s : State) (rounds : List (List Chan)) (rest : List EnvAction), s.Inv → s.seq = 0x10#5 → s.idx = 0 →
    s.channelEnabled s.ch = true → rounds.length = s.nwords → s.env = drainFairRounds s.ch rounds ++ rest →
    ∃ t : State, core.run (drainFairRounds s.ch rounds).length s = .next t ∧ t.seq = 0x00#5 ∧ t.env = rest ∧
      t.regs = s.regs ∧ t.locks = s.locks ∧
      t.emittedOn s.ch ++ t.fifoAt s.ch = s.emittedOn s.ch ++ s.fifoAt s.ch ++ wordsOf s.buf ∧
      ∀ c : Chan, c ≠ s.ch → t.emittedOn c ++ t.fifoAt c = s.emittedOn c ++ s.fifoAt c

/-- The frame of WR_POLL and WR_PUSH: one access at the channel's port, no other target state (R208, R70). -/
def Obligations.WriterTouchesOnlyItsPort : Prop :=
  ∀ (i : Instr) (s t : State), (i = .wrPoll ∨ i = .wrPush) → exec i s = .next t →
    (∃ x : BusTxn, t.trace = s.trace ++ [x] ∧ x.addr = s.cfg.aStimBase + 4#32 * s.ch.setWidth 32) ∧
    (s.cfg.ok = true → s.ch.toNat < s.cfg.nChannels →
      t.regs = s.regs ∧ t.locks = s.locks ∧ ∀ c : Chan, c ≠ s.ch → t.fifoAt c = s.fifoAt c) ∧
    (i = .wrPoll → t.fifo = s.fifo ∧ t.idx = s.idx ∧ t.regs = s.regs ∧ t.locks = s.locks) ∧
    t.emit = s.emit ∧ t.owned = s.owned ∧ t.fault = s.fault ∧ t.fcode = s.fcode ∧ t.clk = s.clk ∧ t.div = s.div ∧
    t.ch = s.ch ∧ t.buf = s.buf ∧ t.len = s.len ∧ t.dstate = s.dstate ∧ t.dphase = s.dphase ∧ t.cnt = s.cnt

/-- No operation of a run reads DIV, CH, BUF, LEN or IDX before a command has written them (R30). -/
def Obligations.UnwrittenRegistersAreNotRead : Prop :=
  (∀ s : State, s.Inv → (s.seq = 0x04#5 → s.divHeld = true) ∧
    (s.seq = 0x10#5 ∨ s.seq = 0x11#5 → s.writeHeld = true)) ∧
  (∀ (c : Cfg) (f : Word) (init : TargetRegs) (src : Source) (es : List EnvAction) (n : Nat) (t : State), c.ok = true →
    core.run n { State.launch c f init with source := src, env := es } = .next t →
    (t.seq = 0x04#5 → t.divHeld = true) ∧ (t.seq = 0x10#5 ∨ t.seq = 0x11#5 → t.writeHeld = true))

/-- DRV_INIT: ACQUIRE with DPHASE 0, then BRINGUP(CLOCK_HZ_IN) with the move to RUN (R221). -/
def Obligations.DriverInitAcquiresThenBringsUp : Prop :=
  ∀ s : State,
    (s.dphase = 0#1 → s.owned = false → exec .drvInit s = .next { s with owned := true, dphase := 1#1 }) ∧
    (s.dphase = 1#1 → s.owned = true → s.cfg.targetBaudHz < s.clockHzIn.toNat →
      exec .drvInit s = .next { s with
        clk := s.clockHzIn, div := BitVec.ofNat 32 (s.clockHzIn.toNat / s.cfg.targetBaudHz - 1), divHeld := true,
        seq := 0x01#5, dstate := 1#1, dphase := 0#1 }) ∧
    (s.dphase = 0#1 → s.owned = true → ∃ t, exec .drvInit s = .next t ∧ t.fault = true ∧ t.fcode = 1#2 ∧ t.seq = 0x1F#5) ∧
    (s.dphase = 1#1 → s.owned = true → s.clockHzIn.toNat ≤ s.cfg.targetBaudHz →
      exec .drvInit s = .refused .clockOutOfRange) ∧
    (s.dphase = 1#1 → s.owned = false → exec .drvInit s = .refused .noHandle)

/-- DRV_RUN: WRITE of the payload byte eight times on channel 0, then the counter modulo 256 (R222, R134). -/
def Obligations.DriverRunWritesThenCounts : Prop :=
  ∀ s : State,
    (s.dphase = 0#1 → s.owned = true → 0 < s.cfg.nChannels → s.channelEnabled 0#5 = true →
      exec .drvRun s = .next { s with
        ch := 0#5, buf := List.replicate 8 (s.cfg.payloadByte s.cnt), len := 8, idx := 0, writeHeld := true,
        seq := 0x10#5, dphase := 1#1 }) ∧
    (s.dphase = 0#1 → s.owned = false → exec .drvRun s = .refused .noHandle) ∧
    (s.dphase = 1#1 → exec .drvRun s = .next { s with cnt := BitVec.ofNat 8 ((s.cnt.toNat + 1) % 256), dphase := 0#1 })

/-- One iteration of the driving loop pushes PAYLOAD(CNT) * 0x01010101 twice and advances CNT (R224, R222, R205). -/
def Obligations.DriverIterationSendsThePayloadTwice : Prop :=
  ∀ (s : State) (ds es : List Chan) (rest : List EnvAction), s.Inv → s.source = .driver → s.seq = 0x00#5 →
    s.owned = true → s.dstate = 1#1 → s.dphase = 0#1 → s.channelEnabled 0#5 = true →
    s.env = .proceed :: drainFairRounds 0#5 [ds, es] ++ .proceed :: rest →
    ∃ t : State, core.run ((drainFairRounds 0#5 [ds, es]).length + 2) s = .next t ∧ t.seq = 0x00#5 ∧ t.dstate = 1#1 ∧
      t.dphase = 0#1 ∧ t.cnt = s.cnt + 1 ∧ t.env = rest ∧
      let w := (s.cfg.payloadByte s.cnt).setWidth 32 * 0x01010101#32
      t.emittedOn 0#5 ++ t.fifoAt 0#5 = s.emittedOn 0#5 ++ s.fifoAt 0#5 ++ [w, w]

/-- DSTATE never leaves RUN but by reset (R222, R225). -/
def Obligations.RunStateIsNeverLeft : Prop :=
  ∀ s t : State, s.dstate = 1#1 → s.noResetNext → step s = .next t → t.dstate = 1#1

/-- FAULT rises only by an ACQUIRE accepted while OWNED is 1 (R230, R232, R237). That DPHASE stays when the driver's ACQUIRE
faults is deduced from R230 and R232 (log entry 13). -/
def Obligations.OnlyASecondAcquireRaisesTheFault : Prop :=
  ∀ s t : State, step s = .next t → s.fault = false → t.fault = true →
    s.nextChoice.1 = .proceed ∧ s.seq = 0x00#5 ∧ s.owned = true ∧
      (s.nextChoice.2.fetchCommand.1 = .acquire ∨ (s.nextChoice.2.fetchCommand.1 = .drvInit ∧ s.dphase = 0#1)) ∧
      t = { s.nextChoice.2.fetchCommand.2 with fault := true, fcode := 1#2, seq := 0x1F#5 }

/-- No step but a reset clears FAULT, FCODE or leaves HALT (R23, R233). -/
def Obligations.FaultIsKeptUntilReset : Prop :=
  ∀ s t : State, s.Inv → s.fault = true → s.noResetNext → step s = .next t →
    t.fault = true ∧ t.fcode = s.fcode ∧ t.seq = 0x1F#5 ∧ t.regs = s.regs ∧ t.locks = s.locks ∧ t.trace = s.trace ∧
      t.owned = s.owned

/-- A bus read of a storage register returns its value whatever lock and gate, and changes no target state (R80). -/
def Obligations.ReadsIgnoreLockAndGate : Prop :=
  ∀ (s : State) (r : StorageReg), s.cfg.ok = true →
    s.memRead (s.cfg.addrOf (.storage r)) =
      some (s.regs.get r, { s with trace := s.trace ++ [⟨.rd, s.cfg.addrOf (.storage r), s.regs.get r⟩] })

/-- A write of KEY to an unlock register clears the block's flag, any other value sets it, when the gate is open (R83). -/
def Obligations.LockRegisterTakesOnlyTheKey : Prop :=
  ∀ (s : State) (b : Block) (v : Word), s.cfg.ok = true →
    ∃ t, s.memWrite (s.cfg.addrOf (.unlock b)) v = some t ∧
      t = { s with trace := s.trace ++ [⟨.wr, s.cfg.addrOf (.unlock b), v⟩], locks := t.locks } ∧
      (s.gate = true → (v = s.cfg.key → t.locks.get b = false) ∧ (v ≠ s.cfg.key → t.locks.get b = true)) ∧
      (∀ c : Block, c ≠ b → t.locks.get c = s.locks.get c) ∧ (s.gate = false → t.locks = s.locks)

/-- A bus write of a storage register stores all 32 bits, or is recorded and has no effect while gated or locked (R84, R85,
R86). -/
def Obligations.LockedOrGatedWritesAreIneffective : Prop :=
  ∀ (s : State) (r : StorageReg) (v : Word), s.cfg.ok = true →
    ∃ t, s.memWrite (s.cfg.addrOf (.storage r)) v = some t ∧
      t = { s with trace := s.trace ++ [⟨.wr, s.cfg.addrOf (.storage r), v⟩], regs := t.regs } ∧
      (r = .dbgen ∨ r = .dbgctl → t.regs.get r = v) ∧
      (∀ b, r.block = some b →
        (s.gate = true → s.locks.get b = false → t.regs.get r = v) ∧
        (s.gate = false ∨ s.locks.get b = true → t.regs.get r = s.regs.get r)) ∧
      (∀ q, q ≠ r → t.regs.get q = s.regs.get q)

/-- A bus write of a stimulus port pushes the word when the port is ready and is lost otherwise (R88). -/
def Obligations.PortTakesAWordOnlyWhenReady : Prop :=
  ∀ (s : State) (ch : Chan) (v : Word), s.cfg.ok = true → ch.toNat < s.cfg.nChannels →
    ∃ t, s.memWrite (s.cfg.aStimBase + 4#32 * ch.setWidth 32) v = some t ∧
      t = { s with trace := s.trace ++ [⟨.wr, s.cfg.aStimBase + 4#32 * ch.setWidth 32, v⟩], fifo := t.fifo } ∧
      (s.ready ch = true → t.fifoAt ch = s.fifoAt ch ++ [v]) ∧ (s.ready ch = false → t.fifoAt ch = s.fifoAt ch) ∧
      (∀ c : Chan, c ≠ ch → t.fifoAt c = s.fifoAt c)

/-- A bus access has no meaning exactly outside the thirteen addresses and the stimulus range (R91, R76). -/
def Obligations.UnmappedAddressesHaveNoMeaning : Prop :=
  ∀ (s : State) (a v : Word), s.cfg.ok = true →
    ((s.memRead a).isNone ↔ (a ∉ s.cfg.fixedAddrs ∧ ∀ ch : Chan, ch.toNat < s.cfg.nChannels → a ≠ s.cfg.stimAddr ch)) ∧
    ((s.memWrite a v).isNone ↔ (a ∉ s.cfg.fixedAddrs ∧ ∀ ch : Chan, ch.toNat < s.cfg.nChannels → a ≠ s.cfg.stimAddr ch))

/-- A drain step moves the oldest word of a FIFO to EMIT and changes nothing else (R92). That a drain choice on an empty
FIFO is a step that changes nothing is the model's choice (log entry 5): in the spec it is no step. -/
def Obligations.DrainTakesTheOldestWord : Prop :=
  ∀ (s u : State) (ch : Chan), s.cfg.ok = true → s.nextChoice = (.drain ch, u) →
    (∀ (w : Word) (q : List Word), s.fifoAt ch = w :: q →
      step s = .next { u with fifo := u.fifo.set ch.toNat q ch.isLt, emit := u.emit ++ [(ch, w)] }) ∧
    (s.fifoAt ch = [] → step s = .next u)

/-- Every step keeps the machine's invariant (R22, R23, R26, R29, R30, R54, R135, R204, R231). -/
def Obligations.InvariantIsKeptByEveryStep : Prop :=
  ∀ s t : State, s.Inv → step s = .next t → t.Inv

/-- The machine's invariant and the flow invariant hold at every launch state, State.reset among them (R58, R54, R55). -/
def Obligations.InvariantsHoldAtLaunch : Prop :=
  (∀ (c : Cfg) (f : Word) (init : TargetRegs), c.ok = true →
    (State.launch c f init).Inv ∧ (State.launch c f init).FlowInv) ∧
  Cfg.pRef.ok = true ∧ State.reset.Inv ∧ State.reset.FlowInv

/-- Every step keeps: words emitted followed by words queued are the words written, on every channel, in order (R93, R92,
R204, R205). -/
def Obligations.NoWordIsDroppedOrReordered : Prop :=
  ∀ s t : State, s.Inv → s.FlowInv → s.noResetNext → step s = .next t →
    t.FlowInv ∧
    ∀ ch : Chan, ch.toNat < t.cfg.nChannels → t.emittedOn ch <+: stimWrites t.cfg ch t.trace ∧
      (t.fifoAt ch = [] → t.emittedOn ch = stimWrites t.cfg ch t.trace)

/-- OWNED, once 1, stays 1 but for reset (R21, R151). -/
def Obligations.OwnershipIsNeverReleased : Prop :=
  ∀ s t : State, s.owned = true → s.noResetNext → step s = .next t → t.owned = true

/-- No step changes the configuration or the driver's clock input (R100, R31). -/
def Obligations.ConfigurationNeverChanges : Prop :=
  ∀ s t : State, step s = .next t → t.cfg = s.cfg ∧ t.clockHzIn = s.clockHzIn

/-- No step but a reset clears the trace-enable bit or locks a block again (R171, R83, R188). -/
def Obligations.GateAndLocksOnlyOpen : Prop :=
  ∀ s t : State, s.Inv → s.noResetNext → step s = .next t →
    (s.traceEnabled = true → t.traceEnabled = true) ∧ (s.gate = true → t.gate = true) ∧
      ∀ b : Block, s.locks.get b = false → t.locks.get b = false

/-- TRACE only grows, by exactly the transactions of the operation's row in R123's table, in order (R96, R97, R123, R70,
R170, R124). -/
def Obligations.EveryTransactionIsRecordedOnce : Prop :=
  ∀ (i : Instr) (s t : State), exec i s = .next t → ∃ new : List BusTxn, t.trace = s.trace ++ new ∧ busRow s i new

/-- The frame of the sixteen micro-operations: nothing but SEQ, IDX, TRACE and the row's one register, lock flag or FIFO
changes (R170, R208, R20, R123). -/
def Obligations.MicroOperationsLeaveControllerAndDriverAlone : Prop :=
  ∀ (i : Instr) (s t : State), i.format = .uop → exec i s = .next t →
    t.owned = s.owned ∧ t.fault = s.fault ∧ t.fcode = s.fcode ∧ t.clk = s.clk ∧ t.div = s.div ∧ t.divHeld = s.divHeld ∧
    t.ch = s.ch ∧ t.buf = s.buf ∧ t.len = s.len ∧ t.writeHeld = s.writeHeld ∧ t.dstate = s.dstate ∧
    t.dphase = s.dphase ∧ t.cnt = s.cnt ∧ t.emit = s.emit ∧ t.cfg = s.cfg ∧ t.clockHzIn = s.clockHzIn ∧
    t.source = s.source ∧ t.env = s.env ∧ (i ≠ .wrPush → t.idx = s.idx) ∧
    (s.cfg.ok = true → (i = .wrPush → s.ch.toNat < s.cfg.nChannels) →
      (∀ r : StorageReg, storageOf i ≠ some r → t.regs.get r = s.regs.get r) ∧
      (∀ b : Block, lockOf i ≠ some b → t.locks.get b = s.locks.get b) ∧
      ∀ c : Chan, (i = .wrPush → c ≠ s.ch) → t.fifoAt c = s.fifoAt c)

/-- ITM_PRIV never changes the outcome of a step (R240, R180). It rests on the premise TSIC_PRIVILEGED of
93_implementation_defined.md U10 (log entry 18). -/
def Obligations.PrivilegeRegisterIsNeverConsulted : Prop :=
  ∀ (s : State) (v : Word), s.Inv →
    onNext (step (s.withPriv v)) (fun t => t.withPriv 0#32) = onNext (step s) (fun t => t.withPriv 0#32)

/-- A bring-up, whatever the launch values, lock flags, gating and drains, ends in the state of R185 (R185, R170, R155). The
bits R185 keeps of the old registers rest on the premise PLAIN_STORAGE of 93_implementation_defined.md U8 (log entry 17). -/
def Obligations.BringUpReachesItsFinalState : Prop :=
  ∀ (s₀ s : State) (f : Word) (es : List EnvAction), s₀.cfg.ok = true → exec (.bringup f) s₀ = .next s →
    EnvAction.reset ∉ es → es.count EnvAction.proceed = 14 → es <+: s.env →
    ∃ t : State, core.run es.length s = .next t ∧ t.seq = 0x00#5 ∧
      t.regs = bringUpFinal s₀.cfg s₀.regs (s₀.cfg.divisor f) ∧ t.locks = ⟨false, false, false⟩ ∧
      t.channelEnabled 0#5 = true ∧ (∀ ch : Chan, ch ≠ 0#5 → t.channelEnabled ch = false) ∧
      t.trace.length = s₀.trace.length + 18 ∧
      ∀ ch : Chan, t.emittedOn ch ++ t.fifoAt ch = s₀.emittedOn ch ++ s₀.fifoAt ch

/-- Bringing up twice with the same clock leaves the same register-value set as once, and repeats all 18 transactions
(R186). It rests on the premise PLAIN_STORAGE of 93_implementation_defined.md U8 (log entry 17). -/
def Obligations.BringUpIsIdempotent : Prop :=
  ∀ (s : State) (f : Word), s.cfg.ok = true → s.owned = true → s.cfg.targetBaudHz < f.toNat →
    ∃ t₁ t₂, execAll (.bringup f :: bringUpOps) s = .next t₁ ∧ execAll (.bringup f :: bringUpOps) t₁ = .next t₂ ∧
      t₂.snapshot = t₁.snapshot ∧ t₁.trace.length = s.trace.length + 18 ∧ t₂.trace.length = s.trace.length + 36

/-- Without a block's unlock its registers keep their values; without the trace enable no gated write has effect, and every
write has if nothing is gated (R187, R81, R56, R83, R86). The kept bits of DBGEN and DBGCTL rest on the premise
PLAIN_STORAGE of 93_implementation_defined.md U8 (log entry 17). -/
def Obligations.OmittedUnlockMakesConfigurationIneffective : Prop :=
  (∀ (s : State) (b : Block), s.cfg.ok = true → s.locks.get b = true →
    ∃ t, execAll (bringUpOps.erase (unlockOp b)) s = .next t ∧
      (∀ r : StorageReg, r.block = some b → t.regs.get r = s.regs.get r) ∧
      (∀ r : StorageReg, r.block ≠ some b → t.regs.get r = (bringUpFinal s.cfg s.regs s.div).get r) ∧
      t.locks.get b = true ∧ ∀ c : Block, c ≠ b → t.locks.get c = false) ∧
  (∀ s : State, s.cfg.ok = true → s.cfg.traceEnGating = true → s.traceEnabled = false →
    ∃ t, execAll (bringUpOps.erase .bu01) s = .next t ∧ t.locks = s.locks ∧
      t.regs.dbgctl = (bringUpFinal s.cfg s.regs s.div).dbgctl ∧
      ∀ r : StorageReg, r ≠ .dbgctl → t.regs.get r = s.regs.get r) ∧
  (∀ s : State, s.cfg.ok = true → s.cfg.traceEnGating = false →
    ∃ t, execAll (bringUpOps.erase .bu01) s = .next t ∧ t.locks = ⟨false, false, false⟩ ∧
      t.regs = { bringUpFinal s.cfg s.regs s.div with dbgen := s.regs.dbgen })
end

