-- ==== Sys2Proof/Laws/AddressMap.lean ====
section
/-! SUPPORT. Under R9 the address map inverts: the register found at the address of a register is that register. -/

namespace Sys2Proof

open Machine (Block StorageReg BusReg)

/-- The four parts of `Cfg.ok`. -/
theorem Cfg.ok_parts {c : Cfg} (h : c.ok = true) :
    c.addrsAligned = true ∧ c.addrsDistinct = true ∧ c.sizesOk = true ∧ c.masksOk = true := by
  simp only [Cfg.ok, Bool.and_eq_true] at h
  exact ⟨h.1.1.1, h.1.1.2, h.1.2, h.2⟩

/-- R9 (c) to (e). -/
theorem Cfg.sizes_of_ok {c : Cfg} (h : c.ok = true) :
    1 ≤ c.targetBaudHz ∧ c.targetBaudHz < 2 ^ 32 ∧ 8 ≤ c.nChannels ∧ c.nChannels ≤ 32 ∧ 1 ≤ c.fifoDepth := by
  have hs := (Cfg.ok_parts h).2.2.1
  simp only [Cfg.sizesOk, Bool.and_eq_true, decide_eq_true_eq] at hs
  exact ⟨hs.1.1.1.1, hs.1.1.1.2, hs.1.1.2, hs.1.2, hs.2⟩

/-- R9 (b): the fixed addresses have no repeats and no stimulus port stands at one of them. -/
theorem Cfg.distinct_of_ok {c : Cfg} (h : c.ok = true) :
    c.fixedAddrs.Nodup ∧ ∀ a ∈ c.fixedAddrs, c.portAt a = none := by
  have hd := (Cfg.ok_parts h).2.1
  simp only [Cfg.addrsDistinct, Bool.and_eq_true, decide_eq_true_eq, List.all_eq_true, Option.isNone_iff_eq_none] at hd
  exact hd

/-- In a map without repeated keys, a listed pair is what lookup finds. -/
theorem lookup_of_mem {α β : Type} [BEq α] [LawfulBEq α] {l : List (α × β)} (hl : (l.map Prod.fst).Nodup) {a : α} {b : β}
    (h : (a, b) ∈ l) : l.lookup a = some b := by
  induction l with
  | nil => cases h
  | cons p rest ih =>
    obtain ⟨x, y⟩ := p
    simp only [List.map_cons, List.nodup_cons] at hl
    rcases List.mem_cons.mp h with e | e
    · obtain ⟨rfl, rfl⟩ := Prod.mk.inj e
      simp
    · have hx : (a == x) = false := by
        simp only [beq_eq_false_iff_ne, ne_eq]
        rintro rfl
        exact hl.1 (List.mem_map_of_mem (f := Prod.fst) e)
      rw [List.lookup_cons, hx]
      exact ih hl.2 e

/-- An address that is no fixed address is looked up in vain. -/
theorem lookup_of_not_mem {α β : Type} [BEq α] [LawfulBEq α] {l : List (α × β)} {a : α} (h : a ∉ l.map Prod.fst) :
    l.lookup a = none := by
  induction l with
  | nil => rfl
  | cons p rest ih =>
    simp only [List.map_cons, List.mem_cons, not_or] at h
    have hx : (a == p.1) = false := by simpa using h.1
    rw [List.lookup_cons, hx]
    exact ih h.2

/-- The stimulus addresses do not wrap under R9 (a). -/
theorem Cfg.stimAddr_toNat {c : Cfg} (h : c.ok = true) {ch : Chan} (hc : ch.toNat < c.nChannels) :
    (c.stimAddr ch).toNat = c.aStimBase.toNat + 4 * ch.toNat := by
  have ha := (Cfg.ok_parts h).1
  simp only [Cfg.addrsAligned, Bool.and_eq_true, decide_eq_true_eq] at ha
  have h2 := ha.2
  have hlt := ch.isLt
  simp only [Cfg.stimAddr, BitVec.toNat_add, BitVec.toNat_mul, BitVec.toNat_setWidth, BitVec.toNat_ofNat]
  omega

/-- The port found at a stimulus address is that channel's. -/
theorem Cfg.portAt_stimAddr {c : Cfg} (h : c.ok = true) {ch : Chan} (hc : ch.toNat < c.nChannels) :
    c.portAt (c.stimAddr ch) = some ch := by
  have ht := Cfg.stimAddr_toNat h hc
  have hd : (c.stimAddr ch).toNat - c.aStimBase.toNat = 4 * ch.toNat := by omega
  have hq : 4 * ch.toNat / 4 = ch.toNat := by omega
  have hcond : c.aStimBase.toNat ≤ (c.stimAddr ch).toNat ∧ 4 * ch.toNat % 4 = 0 ∧ ch.toNat < c.nChannels := by omega
  simp only [Cfg.portAt, hd, hq]
  rw [if_pos hcond]
  simp

/-- A stimulus address is no fixed address (R9 (b)). -/
theorem Cfg.stimAddr_not_fixed {c : Cfg} (h : c.ok = true) {ch : Chan} (hc : ch.toNat < c.nChannels) :
    c.stimAddr ch ∉ c.fixedAddrs := by
  intro hm
  have := (Cfg.distinct_of_ok h).2 _ hm
  rw [Cfg.portAt_stimAddr h hc] at this
  cases this

/-- Two channels have two addresses. -/
theorem Cfg.stimAddr_inj {c : Cfg} (h : c.ok = true) {a b : Chan} (ha : a.toNat < c.nChannels) (hb : b.toNat < c.nChannels)
    (e : c.stimAddr a = c.stimAddr b) : a = b := by
  have := Cfg.stimAddr_toNat h ha
  rw [e, Cfg.stimAddr_toNat h hb] at this
  exact BitVec.eq_of_toNat_eq (by omega)

/-- A register of the map: a fixed one, or the port of a channel below N_CHANNELS. -/
def Cfg.mapped (c : Cfg) : BusReg → Prop
  | .port ch => ch.toNat < c.nChannels
  | .storage _ => True
  | .unlock _ => True

/-- Every fixed register is listed with its address. -/
theorem Cfg.mem_fixedMap (c : Cfg) (r : BusReg) (h : ∀ ch, r ≠ .port ch) : (c.addrOf r, r) ∈ c.fixedMap := by
  cases r with
  | storage r => cases r <;> simp [Cfg.fixedMap, Cfg.addrOf]
  | unlock b => cases b <;> simp [Cfg.fixedMap, Cfg.addrOf]
  | port ch => exact absurd rfl (h ch)

/-- What stands at the address of a register of the map is that register. -/
theorem Cfg.regAt_addrOf {c : Cfg} (h : c.ok = true) (r : BusReg) (hr : c.mapped r) : c.regAt (c.addrOf r) = some r := by
  cases r with
  | storage r =>
    rw [Cfg.regAt, lookup_of_mem (Cfg.distinct_of_ok h).1 (c.mem_fixedMap (.storage r) (by simp))]
  | unlock b =>
    rw [Cfg.regAt, lookup_of_mem (Cfg.distinct_of_ok h).1 (c.mem_fixedMap (.unlock b) (by simp))]
  | port ch =>
    have hn : c.fixedMap.lookup (c.addrOf (.port ch)) = none := lookup_of_not_mem (Cfg.stimAddr_not_fixed h hr)
    rw [Cfg.regAt, hn]
    simp [Cfg.addrOf, Cfg.portAt_stimAddr h hr]

end Sys2Proof
end

