-- ==== Sys2Proof/Laws/Decode.lean ====
section
/-! SUPPORT. The table of micro-operations: no code and no operation stands in it twice, and the two codes that name no
operation do not stand in it. -/

namespace Sys2Proof

/-- No two rows share a code. -/
theorem uopTable_codes_nodup : (uopTable.map Prod.fst).Nodup := by decide

/-- No two rows share an operation. -/
theorem uopTable_instrs_nodup : (uopTable.map Prod.snd).Nodup := by decide

/-- IDLE and HALT are no rows. -/
theorem uopTable_no_idle_no_halt : Seq.idle ∉ uopTable.map Prod.fst ∧ Seq.halt ∉ uopTable.map Prod.fst := by decide

/-- What a code decodes to is its row of the table. -/
theorem decodeUop_of_mem {q : BitVec 5} {i : Instr} (h : (q, i) ∈ uopTable) : decodeUop q = .ok i := by
  have key : ∀ p ∈ uopTable, decodeUop p.1 = .ok p.2 := by decide
  exact key _ h

end Sys2Proof
end

