-- ==== Sys2Proof/Laws/State.lean ====
section
/-! SUPPORT. One lemma per field per update of the state, true by rfl. -/

namespace Sys2Proof.Machine

variable (s : State)

/-! ### setSeq -/

@[simp] theorem State.setSeq_cfg (n : BitVec 5) : (s.setSeq n).cfg = s.cfg := rfl
@[simp] theorem State.setSeq_clockHzIn (n : BitVec 5) : (s.setSeq n).clockHzIn = s.clockHzIn := rfl
@[simp] theorem State.setSeq_source (n : BitVec 5) : (s.setSeq n).source = s.source := rfl
@[simp] theorem State.setSeq_env (n : BitVec 5) : (s.setSeq n).env = s.env := rfl
@[simp] theorem State.setSeq_fresh (n : BitVec 5) : (s.setSeq n).fresh = s.fresh := rfl
@[simp] theorem State.setSeq_owned (n : BitVec 5) : (s.setSeq n).owned = s.owned := rfl
@[simp] theorem State.setSeq_seq (n : BitVec 5) : (s.setSeq n).seq = n := rfl
@[simp] theorem State.setSeq_fault (n : BitVec 5) : (s.setSeq n).fault = s.fault := rfl
@[simp] theorem State.setSeq_fcode (n : BitVec 5) : (s.setSeq n).fcode = s.fcode := rfl
@[simp] theorem State.setSeq_clk (n : BitVec 5) : (s.setSeq n).clk = s.clk := rfl
@[simp] theorem State.setSeq_div (n : BitVec 5) : (s.setSeq n).div = s.div := rfl
@[simp] theorem State.setSeq_divHeld (n : BitVec 5) : (s.setSeq n).divHeld = s.divHeld := rfl
@[simp] theorem State.setSeq_ch (n : BitVec 5) : (s.setSeq n).ch = s.ch := rfl
@[simp] theorem State.setSeq_buf (n : BitVec 5) : (s.setSeq n).buf = s.buf := rfl
@[simp] theorem State.setSeq_len (n : BitVec 5) : (s.setSeq n).len = s.len := rfl
@[simp] theorem State.setSeq_idx (n : BitVec 5) : (s.setSeq n).idx = s.idx := rfl
@[simp] theorem State.setSeq_writeHeld (n : BitVec 5) : (s.setSeq n).writeHeld = s.writeHeld := rfl
@[simp] theorem State.setSeq_dstate (n : BitVec 5) : (s.setSeq n).dstate = s.dstate := rfl
@[simp] theorem State.setSeq_dphase (n : BitVec 5) : (s.setSeq n).dphase = s.dphase := rfl
@[simp] theorem State.setSeq_cnt (n : BitVec 5) : (s.setSeq n).cnt = s.cnt := rfl
@[simp] theorem State.setSeq_regs (n : BitVec 5) : (s.setSeq n).regs = s.regs := rfl
@[simp] theorem State.setSeq_locks (n : BitVec 5) : (s.setSeq n).locks = s.locks := rfl
@[simp] theorem State.setSeq_fifo (n : BitVec 5) : (s.setSeq n).fifo = s.fifo := rfl
@[simp] theorem State.setSeq_emit (n : BitVec 5) : (s.setSeq n).emit = s.emit := rfl
@[simp] theorem State.setSeq_trace (n : BitVec 5) : (s.setSeq n).trace = s.trace := rfl

/-! ### setRegs -/

@[simp] theorem State.setRegs_cfg (r : TargetRegs) : (s.setRegs r).cfg = s.cfg := rfl
@[simp] theorem State.setRegs_clockHzIn (r : TargetRegs) : (s.setRegs r).clockHzIn = s.clockHzIn := rfl
@[simp] theorem State.setRegs_source (r : TargetRegs) : (s.setRegs r).source = s.source := rfl
@[simp] theorem State.setRegs_env (r : TargetRegs) : (s.setRegs r).env = s.env := rfl
@[simp] theorem State.setRegs_fresh (r : TargetRegs) : (s.setRegs r).fresh = s.fresh := rfl
@[simp] theorem State.setRegs_owned (r : TargetRegs) : (s.setRegs r).owned = s.owned := rfl
@[simp] theorem State.setRegs_seq (r : TargetRegs) : (s.setRegs r).seq = s.seq := rfl
@[simp] theorem State.setRegs_fault (r : TargetRegs) : (s.setRegs r).fault = s.fault := rfl
@[simp] theorem State.setRegs_fcode (r : TargetRegs) : (s.setRegs r).fcode = s.fcode := rfl
@[simp] theorem State.setRegs_clk (r : TargetRegs) : (s.setRegs r).clk = s.clk := rfl
@[simp] theorem State.setRegs_div (r : TargetRegs) : (s.setRegs r).div = s.div := rfl
@[simp] theorem State.setRegs_divHeld (r : TargetRegs) : (s.setRegs r).divHeld = s.divHeld := rfl
@[simp] theorem State.setRegs_ch (r : TargetRegs) : (s.setRegs r).ch = s.ch := rfl
@[simp] theorem State.setRegs_buf (r : TargetRegs) : (s.setRegs r).buf = s.buf := rfl
@[simp] theorem State.setRegs_len (r : TargetRegs) : (s.setRegs r).len = s.len := rfl
@[simp] theorem State.setRegs_idx (r : TargetRegs) : (s.setRegs r).idx = s.idx := rfl
@[simp] theorem State.setRegs_writeHeld (r : TargetRegs) : (s.setRegs r).writeHeld = s.writeHeld := rfl
@[simp] theorem State.setRegs_dstate (r : TargetRegs) : (s.setRegs r).dstate = s.dstate := rfl
@[simp] theorem State.setRegs_dphase (r : TargetRegs) : (s.setRegs r).dphase = s.dphase := rfl
@[simp] theorem State.setRegs_cnt (r : TargetRegs) : (s.setRegs r).cnt = s.cnt := rfl
@[simp] theorem State.setRegs_regs (r : TargetRegs) : (s.setRegs r).regs = r := rfl
@[simp] theorem State.setRegs_locks (r : TargetRegs) : (s.setRegs r).locks = s.locks := rfl
@[simp] theorem State.setRegs_fifo (r : TargetRegs) : (s.setRegs r).fifo = s.fifo := rfl
@[simp] theorem State.setRegs_emit (r : TargetRegs) : (s.setRegs r).emit = s.emit := rfl
@[simp] theorem State.setRegs_trace (r : TargetRegs) : (s.setRegs r).trace = s.trace := rfl

/-! ### setLocks -/

@[simp] theorem State.setLocks_cfg (l : LockFlags) : (s.setLocks l).cfg = s.cfg := rfl
@[simp] theorem State.setLocks_clockHzIn (l : LockFlags) : (s.setLocks l).clockHzIn = s.clockHzIn := rfl
@[simp] theorem State.setLocks_source (l : LockFlags) : (s.setLocks l).source = s.source := rfl
@[simp] theorem State.setLocks_env (l : LockFlags) : (s.setLocks l).env = s.env := rfl
@[simp] theorem State.setLocks_fresh (l : LockFlags) : (s.setLocks l).fresh = s.fresh := rfl
@[simp] theorem State.setLocks_owned (l : LockFlags) : (s.setLocks l).owned = s.owned := rfl
@[simp] theorem State.setLocks_seq (l : LockFlags) : (s.setLocks l).seq = s.seq := rfl
@[simp] theorem State.setLocks_fault (l : LockFlags) : (s.setLocks l).fault = s.fault := rfl
@[simp] theorem State.setLocks_fcode (l : LockFlags) : (s.setLocks l).fcode = s.fcode := rfl
@[simp] theorem State.setLocks_clk (l : LockFlags) : (s.setLocks l).clk = s.clk := rfl
@[simp] theorem State.setLocks_div (l : LockFlags) : (s.setLocks l).div = s.div := rfl
@[simp] theorem State.setLocks_divHeld (l : LockFlags) : (s.setLocks l).divHeld = s.divHeld := rfl
@[simp] theorem State.setLocks_ch (l : LockFlags) : (s.setLocks l).ch = s.ch := rfl
@[simp] theorem State.setLocks_buf (l : LockFlags) : (s.setLocks l).buf = s.buf := rfl
@[simp] theorem State.setLocks_len (l : LockFlags) : (s.setLocks l).len = s.len := rfl
@[simp] theorem State.setLocks_idx (l : LockFlags) : (s.setLocks l).idx = s.idx := rfl
@[simp] theorem State.setLocks_writeHeld (l : LockFlags) : (s.setLocks l).writeHeld = s.writeHeld := rfl
@[simp] theorem State.setLocks_dstate (l : LockFlags) : (s.setLocks l).dstate = s.dstate := rfl
@[simp] theorem State.setLocks_dphase (l : LockFlags) : (s.setLocks l).dphase = s.dphase := rfl
@[simp] theorem State.setLocks_cnt (l : LockFlags) : (s.setLocks l).cnt = s.cnt := rfl
@[simp] theorem State.setLocks_regs (l : LockFlags) : (s.setLocks l).regs = s.regs := rfl
@[simp] theorem State.setLocks_locks (l : LockFlags) : (s.setLocks l).locks = l := rfl
@[simp] theorem State.setLocks_fifo (l : LockFlags) : (s.setLocks l).fifo = s.fifo := rfl
@[simp] theorem State.setLocks_emit (l : LockFlags) : (s.setLocks l).emit = s.emit := rfl
@[simp] theorem State.setLocks_trace (l : LockFlags) : (s.setLocks l).trace = s.trace := rfl

/-! ### setFifo -/

@[simp] theorem State.setFifo_cfg (ch : Chan) (q : List Word) : (s.setFifo ch q).cfg = s.cfg := rfl
@[simp] theorem State.setFifo_clockHzIn (ch : Chan) (q : List Word) : (s.setFifo ch q).clockHzIn = s.clockHzIn := rfl
@[simp] theorem State.setFifo_source (ch : Chan) (q : List Word) : (s.setFifo ch q).source = s.source := rfl
@[simp] theorem State.setFifo_env (ch : Chan) (q : List Word) : (s.setFifo ch q).env = s.env := rfl
@[simp] theorem State.setFifo_fresh (ch : Chan) (q : List Word) : (s.setFifo ch q).fresh = s.fresh := rfl
@[simp] theorem State.setFifo_owned (ch : Chan) (q : List Word) : (s.setFifo ch q).owned = s.owned := rfl
@[simp] theorem State.setFifo_seq (ch : Chan) (q : List Word) : (s.setFifo ch q).seq = s.seq := rfl
@[simp] theorem State.setFifo_fault (ch : Chan) (q : List Word) : (s.setFifo ch q).fault = s.fault := rfl
@[simp] theorem State.setFifo_fcode (ch : Chan) (q : List Word) : (s.setFifo ch q).fcode = s.fcode := rfl
@[simp] theorem State.setFifo_clk (ch : Chan) (q : List Word) : (s.setFifo ch q).clk = s.clk := rfl
@[simp] theorem State.setFifo_div (ch : Chan) (q : List Word) : (s.setFifo ch q).div = s.div := rfl
@[simp] theorem State.setFifo_divHeld (ch : Chan) (q : List Word) : (s.setFifo ch q).divHeld = s.divHeld := rfl
@[simp] theorem State.setFifo_ch (ch : Chan) (q : List Word) : (s.setFifo ch q).ch = s.ch := rfl
@[simp] theorem State.setFifo_buf (ch : Chan) (q : List Word) : (s.setFifo ch q).buf = s.buf := rfl
@[simp] theorem State.setFifo_len (ch : Chan) (q : List Word) : (s.setFifo ch q).len = s.len := rfl
@[simp] theorem State.setFifo_idx (ch : Chan) (q : List Word) : (s.setFifo ch q).idx = s.idx := rfl
@[simp] theorem State.setFifo_writeHeld (ch : Chan) (q : List Word) : (s.setFifo ch q).writeHeld = s.writeHeld := rfl
@[simp] theorem State.setFifo_dstate (ch : Chan) (q : List Word) : (s.setFifo ch q).dstate = s.dstate := rfl
@[simp] theorem State.setFifo_dphase (ch : Chan) (q : List Word) : (s.setFifo ch q).dphase = s.dphase := rfl
@[simp] theorem State.setFifo_cnt (ch : Chan) (q : List Word) : (s.setFifo ch q).cnt = s.cnt := rfl
@[simp] theorem State.setFifo_regs (ch : Chan) (q : List Word) : (s.setFifo ch q).regs = s.regs := rfl
@[simp] theorem State.setFifo_locks (ch : Chan) (q : List Word) : (s.setFifo ch q).locks = s.locks := rfl
@[simp] theorem State.setFifo_fifo (ch : Chan) (q : List Word) : (s.setFifo ch q).fifo = s.fifo.set ch.toNat q ch.isLt := rfl
@[simp] theorem State.setFifo_emit (ch : Chan) (q : List Word) : (s.setFifo ch q).emit = s.emit := rfl
@[simp] theorem State.setFifo_trace (ch : Chan) (q : List Word) : (s.setFifo ch q).trace = s.trace := rfl

/-! ### addEmit -/

@[simp] theorem State.addEmit_cfg (ch : Chan) (w : Word) : (s.addEmit ch w).cfg = s.cfg := rfl
@[simp] theorem State.addEmit_clockHzIn (ch : Chan) (w : Word) : (s.addEmit ch w).clockHzIn = s.clockHzIn := rfl
@[simp] theorem State.addEmit_source (ch : Chan) (w : Word) : (s.addEmit ch w).source = s.source := rfl
@[simp] theorem State.addEmit_env (ch : Chan) (w : Word) : (s.addEmit ch w).env = s.env := rfl
@[simp] theorem State.addEmit_fresh (ch : Chan) (w : Word) : (s.addEmit ch w).fresh = s.fresh := rfl
@[simp] theorem State.addEmit_owned (ch : Chan) (w : Word) : (s.addEmit ch w).owned = s.owned := rfl
@[simp] theorem State.addEmit_seq (ch : Chan) (w : Word) : (s.addEmit ch w).seq = s.seq := rfl
@[simp] theorem State.addEmit_fault (ch : Chan) (w : Word) : (s.addEmit ch w).fault = s.fault := rfl
@[simp] theorem State.addEmit_fcode (ch : Chan) (w : Word) : (s.addEmit ch w).fcode = s.fcode := rfl
@[simp] theorem State.addEmit_clk (ch : Chan) (w : Word) : (s.addEmit ch w).clk = s.clk := rfl
@[simp] theorem State.addEmit_div (ch : Chan) (w : Word) : (s.addEmit ch w).div = s.div := rfl
@[simp] theorem State.addEmit_divHeld (ch : Chan) (w : Word) : (s.addEmit ch w).divHeld = s.divHeld := rfl
@[simp] theorem State.addEmit_ch (ch : Chan) (w : Word) : (s.addEmit ch w).ch = s.ch := rfl
@[simp] theorem State.addEmit_buf (ch : Chan) (w : Word) : (s.addEmit ch w).buf = s.buf := rfl
@[simp] theorem State.addEmit_len (ch : Chan) (w : Word) : (s.addEmit ch w).len = s.len := rfl
@[simp] theorem State.addEmit_idx (ch : Chan) (w : Word) : (s.addEmit ch w).idx = s.idx := rfl
@[simp] theorem State.addEmit_writeHeld (ch : Chan) (w : Word) : (s.addEmit ch w).writeHeld = s.writeHeld := rfl
@[simp] theorem State.addEmit_dstate (ch : Chan) (w : Word) : (s.addEmit ch w).dstate = s.dstate := rfl
@[simp] theorem State.addEmit_dphase (ch : Chan) (w : Word) : (s.addEmit ch w).dphase = s.dphase := rfl
@[simp] theorem State.addEmit_cnt (ch : Chan) (w : Word) : (s.addEmit ch w).cnt = s.cnt := rfl
@[simp] theorem State.addEmit_regs (ch : Chan) (w : Word) : (s.addEmit ch w).regs = s.regs := rfl
@[simp] theorem State.addEmit_locks (ch : Chan) (w : Word) : (s.addEmit ch w).locks = s.locks := rfl
@[simp] theorem State.addEmit_fifo (ch : Chan) (w : Word) : (s.addEmit ch w).fifo = s.fifo := rfl
@[simp] theorem State.addEmit_emit (ch : Chan) (w : Word) : (s.addEmit ch w).emit = s.emit ++ [(ch, w)] := rfl
@[simp] theorem State.addEmit_trace (ch : Chan) (w : Word) : (s.addEmit ch w).trace = s.trace := rfl

/-! ### log -/

@[simp] theorem State.log_cfg (t : BusTxn) : (s.log t).cfg = s.cfg := rfl
@[simp] theorem State.log_clockHzIn (t : BusTxn) : (s.log t).clockHzIn = s.clockHzIn := rfl
@[simp] theorem State.log_source (t : BusTxn) : (s.log t).source = s.source := rfl
@[simp] theorem State.log_env (t : BusTxn) : (s.log t).env = s.env := rfl
@[simp] theorem State.log_fresh (t : BusTxn) : (s.log t).fresh = s.fresh := rfl
@[simp] theorem State.log_owned (t : BusTxn) : (s.log t).owned = s.owned := rfl
@[simp] theorem State.log_seq (t : BusTxn) : (s.log t).seq = s.seq := rfl
@[simp] theorem State.log_fault (t : BusTxn) : (s.log t).fault = s.fault := rfl
@[simp] theorem State.log_fcode (t : BusTxn) : (s.log t).fcode = s.fcode := rfl
@[simp] theorem State.log_clk (t : BusTxn) : (s.log t).clk = s.clk := rfl
@[simp] theorem State.log_div (t : BusTxn) : (s.log t).div = s.div := rfl
@[simp] theorem State.log_divHeld (t : BusTxn) : (s.log t).divHeld = s.divHeld := rfl
@[simp] theorem State.log_ch (t : BusTxn) : (s.log t).ch = s.ch := rfl
@[simp] theorem State.log_buf (t : BusTxn) : (s.log t).buf = s.buf := rfl
@[simp] theorem State.log_len (t : BusTxn) : (s.log t).len = s.len := rfl
@[simp] theorem State.log_idx (t : BusTxn) : (s.log t).idx = s.idx := rfl
@[simp] theorem State.log_writeHeld (t : BusTxn) : (s.log t).writeHeld = s.writeHeld := rfl
@[simp] theorem State.log_dstate (t : BusTxn) : (s.log t).dstate = s.dstate := rfl
@[simp] theorem State.log_dphase (t : BusTxn) : (s.log t).dphase = s.dphase := rfl
@[simp] theorem State.log_cnt (t : BusTxn) : (s.log t).cnt = s.cnt := rfl
@[simp] theorem State.log_regs (t : BusTxn) : (s.log t).regs = s.regs := rfl
@[simp] theorem State.log_locks (t : BusTxn) : (s.log t).locks = s.locks := rfl
@[simp] theorem State.log_fifo (t : BusTxn) : (s.log t).fifo = s.fifo := rfl
@[simp] theorem State.log_emit (t : BusTxn) : (s.log t).emit = s.emit := rfl
@[simp] theorem State.log_trace (t : BusTxn) : (s.log t).trace = s.trace ++ [t] := rfl

/-! ### useFresh -/

@[simp] theorem State.useFresh_cfg : s.useFresh.cfg = s.cfg := rfl
@[simp] theorem State.useFresh_clockHzIn : s.useFresh.clockHzIn = s.clockHzIn := rfl
@[simp] theorem State.useFresh_source : s.useFresh.source = s.source := rfl
@[simp] theorem State.useFresh_env : s.useFresh.env = s.env := rfl
@[simp] theorem State.useFresh_fresh : s.useFresh.fresh = s.fresh + 1 := rfl
@[simp] theorem State.useFresh_owned : s.useFresh.owned = s.owned := rfl
@[simp] theorem State.useFresh_seq : s.useFresh.seq = s.seq := rfl
@[simp] theorem State.useFresh_fault : s.useFresh.fault = s.fault := rfl
@[simp] theorem State.useFresh_fcode : s.useFresh.fcode = s.fcode := rfl
@[simp] theorem State.useFresh_clk : s.useFresh.clk = s.clk := rfl
@[simp] theorem State.useFresh_div : s.useFresh.div = s.div := rfl
@[simp] theorem State.useFresh_divHeld : s.useFresh.divHeld = s.divHeld := rfl
@[simp] theorem State.useFresh_ch : s.useFresh.ch = s.ch := rfl
@[simp] theorem State.useFresh_buf : s.useFresh.buf = s.buf := rfl
@[simp] theorem State.useFresh_len : s.useFresh.len = s.len := rfl
@[simp] theorem State.useFresh_idx : s.useFresh.idx = s.idx := rfl
@[simp] theorem State.useFresh_writeHeld : s.useFresh.writeHeld = s.writeHeld := rfl
@[simp] theorem State.useFresh_dstate : s.useFresh.dstate = s.dstate := rfl
@[simp] theorem State.useFresh_dphase : s.useFresh.dphase = s.dphase := rfl
@[simp] theorem State.useFresh_cnt : s.useFresh.cnt = s.cnt := rfl
@[simp] theorem State.useFresh_regs : s.useFresh.regs = s.regs := rfl
@[simp] theorem State.useFresh_locks : s.useFresh.locks = s.locks := rfl
@[simp] theorem State.useFresh_fifo : s.useFresh.fifo = s.fifo := rfl
@[simp] theorem State.useFresh_emit : s.useFresh.emit = s.emit := rfl
@[simp] theorem State.useFresh_trace : s.useFresh.trace = s.trace := rfl

/-! ### setIdx -/

@[simp] theorem State.setIdx_cfg (i : Nat) : (s.setIdx i).cfg = s.cfg := rfl
@[simp] theorem State.setIdx_clockHzIn (i : Nat) : (s.setIdx i).clockHzIn = s.clockHzIn := rfl
@[simp] theorem State.setIdx_source (i : Nat) : (s.setIdx i).source = s.source := rfl
@[simp] theorem State.setIdx_env (i : Nat) : (s.setIdx i).env = s.env := rfl
@[simp] theorem State.setIdx_fresh (i : Nat) : (s.setIdx i).fresh = s.fresh := rfl
@[simp] theorem State.setIdx_owned (i : Nat) : (s.setIdx i).owned = s.owned := rfl
@[simp] theorem State.setIdx_seq (i : Nat) : (s.setIdx i).seq = s.seq := rfl
@[simp] theorem State.setIdx_fault (i : Nat) : (s.setIdx i).fault = s.fault := rfl
@[simp] theorem State.setIdx_fcode (i : Nat) : (s.setIdx i).fcode = s.fcode := rfl
@[simp] theorem State.setIdx_clk (i : Nat) : (s.setIdx i).clk = s.clk := rfl
@[simp] theorem State.setIdx_div (i : Nat) : (s.setIdx i).div = s.div := rfl
@[simp] theorem State.setIdx_divHeld (i : Nat) : (s.setIdx i).divHeld = s.divHeld := rfl
@[simp] theorem State.setIdx_ch (i : Nat) : (s.setIdx i).ch = s.ch := rfl
@[simp] theorem State.setIdx_buf (i : Nat) : (s.setIdx i).buf = s.buf := rfl
@[simp] theorem State.setIdx_len (i : Nat) : (s.setIdx i).len = s.len := rfl
@[simp] theorem State.setIdx_idx (i : Nat) : (s.setIdx i).idx = i := rfl
@[simp] theorem State.setIdx_writeHeld (i : Nat) : (s.setIdx i).writeHeld = s.writeHeld := rfl
@[simp] theorem State.setIdx_dstate (i : Nat) : (s.setIdx i).dstate = s.dstate := rfl
@[simp] theorem State.setIdx_dphase (i : Nat) : (s.setIdx i).dphase = s.dphase := rfl
@[simp] theorem State.setIdx_cnt (i : Nat) : (s.setIdx i).cnt = s.cnt := rfl
@[simp] theorem State.setIdx_regs (i : Nat) : (s.setIdx i).regs = s.regs := rfl
@[simp] theorem State.setIdx_locks (i : Nat) : (s.setIdx i).locks = s.locks := rfl
@[simp] theorem State.setIdx_fifo (i : Nat) : (s.setIdx i).fifo = s.fifo := rfl
@[simp] theorem State.setIdx_emit (i : Nat) : (s.setIdx i).emit = s.emit := rfl
@[simp] theorem State.setIdx_trace (i : Nat) : (s.setIdx i).trace = s.trace := rfl

/-! ### grant -/

@[simp] theorem State.grant_cfg : s.grant.cfg = s.cfg := rfl
@[simp] theorem State.grant_clockHzIn : s.grant.clockHzIn = s.clockHzIn := rfl
@[simp] theorem State.grant_source : s.grant.source = s.source := rfl
@[simp] theorem State.grant_env : s.grant.env = s.env := rfl
@[simp] theorem State.grant_fresh : s.grant.fresh = s.fresh := rfl
@[simp] theorem State.grant_owned : s.grant.owned = true := rfl
@[simp] theorem State.grant_seq : s.grant.seq = s.seq := rfl
@[simp] theorem State.grant_fault : s.grant.fault = s.fault := rfl
@[simp] theorem State.grant_fcode : s.grant.fcode = s.fcode := rfl
@[simp] theorem State.grant_clk : s.grant.clk = s.clk := rfl
@[simp] theorem State.grant_div : s.grant.div = s.div := rfl
@[simp] theorem State.grant_divHeld : s.grant.divHeld = s.divHeld := rfl
@[simp] theorem State.grant_ch : s.grant.ch = s.ch := rfl
@[simp] theorem State.grant_buf : s.grant.buf = s.buf := rfl
@[simp] theorem State.grant_len : s.grant.len = s.len := rfl
@[simp] theorem State.grant_idx : s.grant.idx = s.idx := rfl
@[simp] theorem State.grant_writeHeld : s.grant.writeHeld = s.writeHeld := rfl
@[simp] theorem State.grant_dstate : s.grant.dstate = s.dstate := rfl
@[simp] theorem State.grant_dphase : s.grant.dphase = s.dphase := rfl
@[simp] theorem State.grant_cnt : s.grant.cnt = s.cnt := rfl
@[simp] theorem State.grant_regs : s.grant.regs = s.regs := rfl
@[simp] theorem State.grant_locks : s.grant.locks = s.locks := rfl
@[simp] theorem State.grant_fifo : s.grant.fifo = s.fifo := rfl
@[simp] theorem State.grant_emit : s.grant.emit = s.emit := rfl
@[simp] theorem State.grant_trace : s.grant.trace = s.trace := rfl

/-! ### latchClock -/

@[simp] theorem State.latchClock_cfg (f d : Word) : (s.latchClock f d).cfg = s.cfg := rfl
@[simp] theorem State.latchClock_clockHzIn (f d : Word) : (s.latchClock f d).clockHzIn = s.clockHzIn := rfl
@[simp] theorem State.latchClock_source (f d : Word) : (s.latchClock f d).source = s.source := rfl
@[simp] theorem State.latchClock_env (f d : Word) : (s.latchClock f d).env = s.env := rfl
@[simp] theorem State.latchClock_fresh (f d : Word) : (s.latchClock f d).fresh = s.fresh := rfl
@[simp] theorem State.latchClock_owned (f d : Word) : (s.latchClock f d).owned = s.owned := rfl
@[simp] theorem State.latchClock_seq (f d : Word) : (s.latchClock f d).seq = s.seq := rfl
@[simp] theorem State.latchClock_fault (f d : Word) : (s.latchClock f d).fault = s.fault := rfl
@[simp] theorem State.latchClock_fcode (f d : Word) : (s.latchClock f d).fcode = s.fcode := rfl
@[simp] theorem State.latchClock_clk (f d : Word) : (s.latchClock f d).clk = f := rfl
@[simp] theorem State.latchClock_div (f d : Word) : (s.latchClock f d).div = d := rfl
@[simp] theorem State.latchClock_divHeld (f d : Word) : (s.latchClock f d).divHeld = true := rfl
@[simp] theorem State.latchClock_ch (f d : Word) : (s.latchClock f d).ch = s.ch := rfl
@[simp] theorem State.latchClock_buf (f d : Word) : (s.latchClock f d).buf = s.buf := rfl
@[simp] theorem State.latchClock_len (f d : Word) : (s.latchClock f d).len = s.len := rfl
@[simp] theorem State.latchClock_idx (f d : Word) : (s.latchClock f d).idx = s.idx := rfl
@[simp] theorem State.latchClock_writeHeld (f d : Word) : (s.latchClock f d).writeHeld = s.writeHeld := rfl
@[simp] theorem State.latchClock_dstate (f d : Word) : (s.latchClock f d).dstate = s.dstate := rfl
@[simp] theorem State.latchClock_dphase (f d : Word) : (s.latchClock f d).dphase = s.dphase := rfl
@[simp] theorem State.latchClock_cnt (f d : Word) : (s.latchClock f d).cnt = s.cnt := rfl
@[simp] theorem State.latchClock_regs (f d : Word) : (s.latchClock f d).regs = s.regs := rfl
@[simp] theorem State.latchClock_locks (f d : Word) : (s.latchClock f d).locks = s.locks := rfl
@[simp] theorem State.latchClock_fifo (f d : Word) : (s.latchClock f d).fifo = s.fifo := rfl
@[simp] theorem State.latchClock_emit (f d : Word) : (s.latchClock f d).emit = s.emit := rfl
@[simp] theorem State.latchClock_trace (f d : Word) : (s.latchClock f d).trace = s.trace := rfl

/-! ### latchWrite -/

@[simp] theorem State.latchWrite_cfg (c : Chan) (bytes : List Byte) : (s.latchWrite c bytes).cfg = s.cfg := rfl
@[simp] theorem State.latchWrite_clockHzIn (c : Chan) (bytes : List Byte) : (s.latchWrite c bytes).clockHzIn = s.clockHzIn := rfl
@[simp] theorem State.latchWrite_source (c : Chan) (bytes : List Byte) : (s.latchWrite c bytes).source = s.source := rfl
@[simp] theorem State.latchWrite_env (c : Chan) (bytes : List Byte) : (s.latchWrite c bytes).env = s.env := rfl
@[simp] theorem State.latchWrite_fresh (c : Chan) (bytes : List Byte) : (s.latchWrite c bytes).fresh = s.fresh := rfl
@[simp] theorem State.latchWrite_owned (c : Chan) (bytes : List Byte) : (s.latchWrite c bytes).owned = s.owned := rfl
@[simp] theorem State.latchWrite_seq (c : Chan) (bytes : List Byte) : (s.latchWrite c bytes).seq = s.seq := rfl
@[simp] theorem State.latchWrite_fault (c : Chan) (bytes : List Byte) : (s.latchWrite c bytes).fault = s.fault := rfl
@[simp] theorem State.latchWrite_fcode (c : Chan) (bytes : List Byte) : (s.latchWrite c bytes).fcode = s.fcode := rfl
@[simp] theorem State.latchWrite_clk (c : Chan) (bytes : List Byte) : (s.latchWrite c bytes).clk = s.clk := rfl
@[simp] theorem State.latchWrite_div (c : Chan) (bytes : List Byte) : (s.latchWrite c bytes).div = s.div := rfl
@[simp] theorem State.latchWrite_divHeld (c : Chan) (bytes : List Byte) : (s.latchWrite c bytes).divHeld = s.divHeld := rfl
@[simp] theorem State.latchWrite_ch (c : Chan) (bytes : List Byte) : (s.latchWrite c bytes).ch = c := rfl
@[simp] theorem State.latchWrite_buf (c : Chan) (bytes : List Byte) : (s.latchWrite c bytes).buf = bytes := rfl
@[simp] theorem State.latchWrite_len (c : Chan) (bytes : List Byte) : (s.latchWrite c bytes).len = bytes.length := rfl
@[simp] theorem State.latchWrite_idx (c : Chan) (bytes : List Byte) : (s.latchWrite c bytes).idx = 0 := rfl
@[simp] theorem State.latchWrite_writeHeld (c : Chan) (bytes : List Byte) : (s.latchWrite c bytes).writeHeld = true := rfl
@[simp] theorem State.latchWrite_dstate (c : Chan) (bytes : List Byte) : (s.latchWrite c bytes).dstate = s.dstate := rfl
@[simp] theorem State.latchWrite_dphase (c : Chan) (bytes : List Byte) : (s.latchWrite c bytes).dphase = s.dphase := rfl
@[simp] theorem State.latchWrite_cnt (c : Chan) (bytes : List Byte) : (s.latchWrite c bytes).cnt = s.cnt := rfl
@[simp] theorem State.latchWrite_regs (c : Chan) (bytes : List Byte) : (s.latchWrite c bytes).regs = s.regs := rfl
@[simp] theorem State.latchWrite_locks (c : Chan) (bytes : List Byte) : (s.latchWrite c bytes).locks = s.locks := rfl
@[simp] theorem State.latchWrite_fifo (c : Chan) (bytes : List Byte) : (s.latchWrite c bytes).fifo = s.fifo := rfl
@[simp] theorem State.latchWrite_emit (c : Chan) (bytes : List Byte) : (s.latchWrite c bytes).emit = s.emit := rfl
@[simp] theorem State.latchWrite_trace (c : Chan) (bytes : List Byte) : (s.latchWrite c bytes).trace = s.trace := rfl

/-! ### setDriver -/

@[simp] theorem State.setDriver_cfg (a b : BitVec 1) : (s.setDriver a b).cfg = s.cfg := rfl
@[simp] theorem State.setDriver_clockHzIn (a b : BitVec 1) : (s.setDriver a b).clockHzIn = s.clockHzIn := rfl
@[simp] theorem State.setDriver_source (a b : BitVec 1) : (s.setDriver a b).source = s.source := rfl
@[simp] theorem State.setDriver_env (a b : BitVec 1) : (s.setDriver a b).env = s.env := rfl
@[simp] theorem State.setDriver_fresh (a b : BitVec 1) : (s.setDriver a b).fresh = s.fresh := rfl
@[simp] theorem State.setDriver_owned (a b : BitVec 1) : (s.setDriver a b).owned = s.owned := rfl
@[simp] theorem State.setDriver_seq (a b : BitVec 1) : (s.setDriver a b).seq = s.seq := rfl
@[simp] theorem State.setDriver_fault (a b : BitVec 1) : (s.setDriver a b).fault = s.fault := rfl
@[simp] theorem State.setDriver_fcode (a b : BitVec 1) : (s.setDriver a b).fcode = s.fcode := rfl
@[simp] theorem State.setDriver_clk (a b : BitVec 1) : (s.setDriver a b).clk = s.clk := rfl
@[simp] theorem State.setDriver_div (a b : BitVec 1) : (s.setDriver a b).div = s.div := rfl
@[simp] theorem State.setDriver_divHeld (a b : BitVec 1) : (s.setDriver a b).divHeld = s.divHeld := rfl
@[simp] theorem State.setDriver_ch (a b : BitVec 1) : (s.setDriver a b).ch = s.ch := rfl
@[simp] theorem State.setDriver_buf (a b : BitVec 1) : (s.setDriver a b).buf = s.buf := rfl
@[simp] theorem State.setDriver_len (a b : BitVec 1) : (s.setDriver a b).len = s.len := rfl
@[simp] theorem State.setDriver_idx (a b : BitVec 1) : (s.setDriver a b).idx = s.idx := rfl
@[simp] theorem State.setDriver_writeHeld (a b : BitVec 1) : (s.setDriver a b).writeHeld = s.writeHeld := rfl
@[simp] theorem State.setDriver_dstate (a b : BitVec 1) : (s.setDriver a b).dstate = a := rfl
@[simp] theorem State.setDriver_dphase (a b : BitVec 1) : (s.setDriver a b).dphase = b := rfl
@[simp] theorem State.setDriver_cnt (a b : BitVec 1) : (s.setDriver a b).cnt = s.cnt := rfl
@[simp] theorem State.setDriver_regs (a b : BitVec 1) : (s.setDriver a b).regs = s.regs := rfl
@[simp] theorem State.setDriver_locks (a b : BitVec 1) : (s.setDriver a b).locks = s.locks := rfl
@[simp] theorem State.setDriver_fifo (a b : BitVec 1) : (s.setDriver a b).fifo = s.fifo := rfl
@[simp] theorem State.setDriver_emit (a b : BitVec 1) : (s.setDriver a b).emit = s.emit := rfl
@[simp] theorem State.setDriver_trace (a b : BitVec 1) : (s.setDriver a b).trace = s.trace := rfl

/-! ### setCnt -/

@[simp] theorem State.setCnt_cfg (c : Byte) : (s.setCnt c).cfg = s.cfg := rfl
@[simp] theorem State.setCnt_clockHzIn (c : Byte) : (s.setCnt c).clockHzIn = s.clockHzIn := rfl
@[simp] theorem State.setCnt_source (c : Byte) : (s.setCnt c).source = s.source := rfl
@[simp] theorem State.setCnt_env (c : Byte) : (s.setCnt c).env = s.env := rfl
@[simp] theorem State.setCnt_fresh (c : Byte) : (s.setCnt c).fresh = s.fresh := rfl
@[simp] theorem State.setCnt_owned (c : Byte) : (s.setCnt c).owned = s.owned := rfl
@[simp] theorem State.setCnt_seq (c : Byte) : (s.setCnt c).seq = s.seq := rfl
@[simp] theorem State.setCnt_fault (c : Byte) : (s.setCnt c).fault = s.fault := rfl
@[simp] theorem State.setCnt_fcode (c : Byte) : (s.setCnt c).fcode = s.fcode := rfl
@[simp] theorem State.setCnt_clk (c : Byte) : (s.setCnt c).clk = s.clk := rfl
@[simp] theorem State.setCnt_div (c : Byte) : (s.setCnt c).div = s.div := rfl
@[simp] theorem State.setCnt_divHeld (c : Byte) : (s.setCnt c).divHeld = s.divHeld := rfl
@[simp] theorem State.setCnt_ch (c : Byte) : (s.setCnt c).ch = s.ch := rfl
@[simp] theorem State.setCnt_buf (c : Byte) : (s.setCnt c).buf = s.buf := rfl
@[simp] theorem State.setCnt_len (c : Byte) : (s.setCnt c).len = s.len := rfl
@[simp] theorem State.setCnt_idx (c : Byte) : (s.setCnt c).idx = s.idx := rfl
@[simp] theorem State.setCnt_writeHeld (c : Byte) : (s.setCnt c).writeHeld = s.writeHeld := rfl
@[simp] theorem State.setCnt_dstate (c : Byte) : (s.setCnt c).dstate = s.dstate := rfl
@[simp] theorem State.setCnt_dphase (c : Byte) : (s.setCnt c).dphase = s.dphase := rfl
@[simp] theorem State.setCnt_cnt (c : Byte) : (s.setCnt c).cnt = c := rfl
@[simp] theorem State.setCnt_regs (c : Byte) : (s.setCnt c).regs = s.regs := rfl
@[simp] theorem State.setCnt_locks (c : Byte) : (s.setCnt c).locks = s.locks := rfl
@[simp] theorem State.setCnt_fifo (c : Byte) : (s.setCnt c).fifo = s.fifo := rfl
@[simp] theorem State.setCnt_emit (c : Byte) : (s.setCnt c).emit = s.emit := rfl
@[simp] theorem State.setCnt_trace (c : Byte) : (s.setCnt c).trace = s.trace := rfl

/-! ### raise -/

@[simp] theorem State.raise_cfg (code : BitVec 2) : (s.raise code).cfg = s.cfg := rfl
@[simp] theorem State.raise_clockHzIn (code : BitVec 2) : (s.raise code).clockHzIn = s.clockHzIn := rfl
@[simp] theorem State.raise_source (code : BitVec 2) : (s.raise code).source = s.source := rfl
@[simp] theorem State.raise_env (code : BitVec 2) : (s.raise code).env = s.env := rfl
@[simp] theorem State.raise_fresh (code : BitVec 2) : (s.raise code).fresh = s.fresh := rfl
@[simp] theorem State.raise_owned (code : BitVec 2) : (s.raise code).owned = s.owned := rfl
@[simp] theorem State.raise_seq (code : BitVec 2) : (s.raise code).seq = Seq.halt := rfl
@[simp] theorem State.raise_fault (code : BitVec 2) : (s.raise code).fault = true := rfl
@[simp] theorem State.raise_fcode (code : BitVec 2) : (s.raise code).fcode = code := rfl
@[simp] theorem State.raise_clk (code : BitVec 2) : (s.raise code).clk = s.clk := rfl
@[simp] theorem State.raise_div (code : BitVec 2) : (s.raise code).div = s.div := rfl
@[simp] theorem State.raise_divHeld (code : BitVec 2) : (s.raise code).divHeld = s.divHeld := rfl
@[simp] theorem State.raise_ch (code : BitVec 2) : (s.raise code).ch = s.ch := rfl
@[simp] theorem State.raise_buf (code : BitVec 2) : (s.raise code).buf = s.buf := rfl
@[simp] theorem State.raise_len (code : BitVec 2) : (s.raise code).len = s.len := rfl
@[simp] theorem State.raise_idx (code : BitVec 2) : (s.raise code).idx = s.idx := rfl
@[simp] theorem State.raise_writeHeld (code : BitVec 2) : (s.raise code).writeHeld = s.writeHeld := rfl
@[simp] theorem State.raise_dstate (code : BitVec 2) : (s.raise code).dstate = s.dstate := rfl
@[simp] theorem State.raise_dphase (code : BitVec 2) : (s.raise code).dphase = s.dphase := rfl
@[simp] theorem State.raise_cnt (code : BitVec 2) : (s.raise code).cnt = s.cnt := rfl
@[simp] theorem State.raise_regs (code : BitVec 2) : (s.raise code).regs = s.regs := rfl
@[simp] theorem State.raise_locks (code : BitVec 2) : (s.raise code).locks = s.locks := rfl
@[simp] theorem State.raise_fifo (code : BitVec 2) : (s.raise code).fifo = s.fifo := rfl
@[simp] theorem State.raise_emit (code : BitVec 2) : (s.raise code).emit = s.emit := rfl
@[simp] theorem State.raise_trace (code : BitVec 2) : (s.raise code).trace = s.trace := rfl

end Sys2Proof.Machine
end

