-- ==== Sys2Proof/Laws/Target.lean ====
section
/-! SUPPORT. The target's registers, lock flags and queues: read after write, and which predicates an update leaves alone. -/

namespace Sys2Proof.Machine

@[simp] theorem TargetRegs.get_set_same (r : TargetRegs) (a : StorageReg) (v : Word) : (r.set a v).get a = v := by
  cases a <;> rfl

theorem TargetRegs.get_set_ne (r : TargetRegs) (a b : StorageReg) (v : Word) (h : b ≠ a) : (r.set a v).get b = r.get b := by
  cases a <;> cases b <;> first | rfl | exact absurd rfl h

@[simp] theorem TargetRegs.set_get (r : TargetRegs) (a : StorageReg) : r.set a (r.get a) = r := by
  cases a <;> rfl

/-- Two register files that read alike are equal. -/
theorem TargetRegs.ext_get (r q : TargetRegs) (h : ∀ a, r.get a = q.get a) : r = q := by
  cases r; cases q
  simp only [TargetRegs.mk.injEq]
  exact ⟨h .dbgen, h .fmtWidth, h .fmtDiv, h .fmtMode, h .fmtFrame, h .syncCtrl, h .itmPriv, h .itmCtrl, h .itmChen,
    h .dbgctl⟩

@[simp] theorem LockFlags.get_set_same (l : LockFlags) (b : Block) (v : Bool) : (l.set b v).get b = v := by
  cases b <;> rfl

theorem LockFlags.get_set_ne (l : LockFlags) (b c : Block) (v : Bool) (h : c ≠ b) : (l.set b v).get c = l.get c := by
  cases b <;> cases c <;> first | rfl | exact absurd rfl h

@[simp] theorem State.fifoAt_setFifo_same (s : State) (ch : Chan) (q : List Word) : (s.setFifo ch q).fifoAt ch = q := by
  simp [State.fifoAt]

theorem State.fifoAt_setFifo_ne (s : State) (ch c : Chan) (q : List Word) (h : c ≠ ch) :
    (s.setFifo ch q).fifoAt c = s.fifoAt c := by
  have hn : ch.toNat ≠ c.toNat := fun e => h (BitVec.eq_of_toNat_eq e.symm)
  simp [State.fifoAt, Vector.getElem_set_ne _ _ hn]

@[simp] theorem State.setFifo_fifoAt (s : State) (ch : Chan) : s.setFifo ch (s.fifoAt ch) = s := by
  simp [State.setFifo, State.fifoAt]

/-- Gate, ChannelEnabled and Ready depend on the configuration, the registers and the queues only. -/
theorem State.gate_congr {s t : State} (hc : t.cfg = s.cfg) (hr : t.regs = s.regs) : t.gate = s.gate := by
  simp [State.gate, State.traceEnabled, hc, hr]

theorem State.channelEnabled_congr {s t : State} (hc : t.cfg = s.cfg) (hr : t.regs = s.regs) (ch : Chan) :
    t.channelEnabled ch = s.channelEnabled ch := by
  simp [State.channelEnabled, State.gate_congr hc hr, hc, hr]

theorem State.fifoAt_congr {s t : State} (hf : t.fifo = s.fifo) (ch : Chan) : t.fifoAt ch = s.fifoAt ch := by
  simp [State.fifoAt, hf]

theorem State.ready_congr {s t : State} (hc : t.cfg = s.cfg) (hr : t.regs = s.regs) (hf : t.fifo = s.fifo) (ch : Chan) :
    t.ready ch = s.ready ch := by
  simp [State.ready, State.channelEnabled_congr hc hr, State.fifoAt_congr hf, hc]

@[simp] theorem State.gate_log (s : State) (t : BusTxn) : (s.log t).gate = s.gate := rfl
@[simp] theorem State.fifoAt_log (s : State) (t : BusTxn) (ch : Chan) : (s.log t).fifoAt ch = s.fifoAt ch := rfl
@[simp] theorem State.channelEnabled_log (s : State) (t : BusTxn) (ch : Chan) :
    (s.log t).channelEnabled ch = s.channelEnabled ch := rfl
@[simp] theorem State.ready_log (s : State) (t : BusTxn) (ch : Chan) : (s.log t).ready ch = s.ready ch := rfl
@[simp] theorem State.storageWritable_log (s : State) (t : BusTxn) (r : StorageReg) :
    (s.log t).storageWritable r = s.storageWritable r := rfl
@[simp] theorem State.statusWord_log (s : State) (t : BusTxn) (ch : Chan) : (s.log t).statusWord ch = s.statusWord ch := rfl

@[simp] theorem State.gate_useFresh (s : State) : s.useFresh.gate = s.gate := rfl
@[simp] theorem State.fifoAt_useFresh (s : State) (ch : Chan) : s.useFresh.fifoAt ch = s.fifoAt ch := rfl
@[simp] theorem State.channelEnabled_useFresh (s : State) (ch : Chan) :
    s.useFresh.channelEnabled ch = s.channelEnabled ch := rfl
@[simp] theorem State.ready_useFresh (s : State) (ch : Chan) : s.useFresh.ready ch = s.ready ch := rfl

@[simp] theorem State.gate_setSeq (s : State) (n : BitVec 5) : (s.setSeq n).gate = s.gate := rfl
@[simp] theorem State.fifoAt_setSeq (s : State) (n : BitVec 5) (ch : Chan) : (s.setSeq n).fifoAt ch = s.fifoAt ch := rfl
@[simp] theorem State.channelEnabled_setSeq (s : State) (n : BitVec 5) (ch : Chan) :
    (s.setSeq n).channelEnabled ch = s.channelEnabled ch := rfl
@[simp] theorem State.ready_setSeq (s : State) (n : BitVec 5) (ch : Chan) : (s.setSeq n).ready ch = s.ready ch := rfl

@[simp] theorem State.gate_setFifo (s : State) (c : Chan) (q : List Word) : (s.setFifo c q).gate = s.gate := rfl
@[simp] theorem State.channelEnabled_setFifo (s : State) (c : Chan) (q : List Word) (ch : Chan) :
    (s.setFifo c q).channelEnabled ch = s.channelEnabled ch := rfl
@[simp] theorem State.gate_addEmit (s : State) (c : Chan) (w : Word) : (s.addEmit c w).gate = s.gate := rfl
@[simp] theorem State.fifoAt_addEmit (s : State) (c : Chan) (w : Word) (ch : Chan) :
    (s.addEmit c w).fifoAt ch = s.fifoAt ch := rfl
@[simp] theorem State.channelEnabled_addEmit (s : State) (c : Chan) (w : Word) (ch : Chan) :
    (s.addEmit c w).channelEnabled ch = s.channelEnabled ch := rfl
@[simp] theorem State.ready_addEmit (s : State) (c : Chan) (w : Word) (ch : Chan) :
    (s.addEmit c w).ready ch = s.ready ch := rfl

end Sys2Proof.Machine
end

