-- ==== Sys2Proof/Laws/Ops.lean ====
section
/-! SUPPORT. What each shared operation does, said once: the target's reaction and its frame, the bus primitives at an address
of the map, the classes of micro-operation, the drain, the environment's choice, and one step. -/

namespace Sys2Proof.Machine

/-! ## Frames -/

@[simp] theorem State.targetWrite_cfg (s : State) (a : BusReg) (v : Word) : (s.targetWrite a v).cfg = s.cfg := by
  cases a <;> simp only [State.targetWrite] <;> split <;> rfl

@[simp] theorem State.targetWrite_clockHzIn (s : State) (a : BusReg) (v : Word) : (s.targetWrite a v).clockHzIn = s.clockHzIn := by
  cases a <;> simp only [State.targetWrite] <;> split <;> rfl

@[simp] theorem State.targetWrite_source (s : State) (a : BusReg) (v : Word) : (s.targetWrite a v).source = s.source := by
  cases a <;> simp only [State.targetWrite] <;> split <;> rfl

@[simp] theorem State.targetWrite_env (s : State) (a : BusReg) (v : Word) : (s.targetWrite a v).env = s.env := by
  cases a <;> simp only [State.targetWrite] <;> split <;> rfl

@[simp] theorem State.targetWrite_fresh (s : State) (a : BusReg) (v : Word) : (s.targetWrite a v).fresh = s.fresh := by
  cases a <;> simp only [State.targetWrite] <;> split <;> rfl

@[simp] theorem State.targetWrite_owned (s : State) (a : BusReg) (v : Word) : (s.targetWrite a v).owned = s.owned := by
  cases a <;> simp only [State.targetWrite] <;> split <;> rfl

@[simp] theorem State.targetWrite_seq (s : State) (a : BusReg) (v : Word) : (s.targetWrite a v).seq = s.seq := by
  cases a <;> simp only [State.targetWrite] <;> split <;> rfl

@[simp] theorem State.targetWrite_fault (s : State) (a : BusReg) (v : Word) : (s.targetWrite a v).fault = s.fault := by
  cases a <;> simp only [State.targetWrite] <;> split <;> rfl

@[simp] theorem State.targetWrite_fcode (s : State) (a : BusReg) (v : Word) : (s.targetWrite a v).fcode = s.fcode := by
  cases a <;> simp only [State.targetWrite] <;> split <;> rfl

@[simp] theorem State.targetWrite_clk (s : State) (a : BusReg) (v : Word) : (s.targetWrite a v).clk = s.clk := by
  cases a <;> simp only [State.targetWrite] <;> split <;> rfl

@[simp] theorem State.targetWrite_div (s : State) (a : BusReg) (v : Word) : (s.targetWrite a v).div = s.div := by
  cases a <;> simp only [State.targetWrite] <;> split <;> rfl

@[simp] theorem State.targetWrite_divHeld (s : State) (a : BusReg) (v : Word) : (s.targetWrite a v).divHeld = s.divHeld := by
  cases a <;> simp only [State.targetWrite] <;> split <;> rfl

@[simp] theorem State.targetWrite_ch (s : State) (a : BusReg) (v : Word) : (s.targetWrite a v).ch = s.ch := by
  cases a <;> simp only [State.targetWrite] <;> split <;> rfl

@[simp] theorem State.targetWrite_buf (s : State) (a : BusReg) (v : Word) : (s.targetWrite a v).buf = s.buf := by
  cases a <;> simp only [State.targetWrite] <;> split <;> rfl

@[simp] theorem State.targetWrite_len (s : State) (a : BusReg) (v : Word) : (s.targetWrite a v).len = s.len := by
  cases a <;> simp only [State.targetWrite] <;> split <;> rfl

@[simp] theorem State.targetWrite_idx (s : State) (a : BusReg) (v : Word) : (s.targetWrite a v).idx = s.idx := by
  cases a <;> simp only [State.targetWrite] <;> split <;> rfl

@[simp] theorem State.targetWrite_writeHeld (s : State) (a : BusReg) (v : Word) : (s.targetWrite a v).writeHeld = s.writeHeld := by
  cases a <;> simp only [State.targetWrite] <;> split <;> rfl

@[simp] theorem State.targetWrite_dstate (s : State) (a : BusReg) (v : Word) : (s.targetWrite a v).dstate = s.dstate := by
  cases a <;> simp only [State.targetWrite] <;> split <;> rfl

@[simp] theorem State.targetWrite_dphase (s : State) (a : BusReg) (v : Word) : (s.targetWrite a v).dphase = s.dphase := by
  cases a <;> simp only [State.targetWrite] <;> split <;> rfl

@[simp] theorem State.targetWrite_cnt (s : State) (a : BusReg) (v : Word) : (s.targetWrite a v).cnt = s.cnt := by
  cases a <;> simp only [State.targetWrite] <;> split <;> rfl

@[simp] theorem State.targetWrite_emit (s : State) (a : BusReg) (v : Word) : (s.targetWrite a v).emit = s.emit := by
  cases a <;> simp only [State.targetWrite] <;> split <;> rfl

@[simp] theorem State.targetWrite_trace (s : State) (a : BusReg) (v : Word) : (s.targetWrite a v).trace = s.trace := by
  cases a <;> simp only [State.targetWrite] <;> split <;> rfl

@[simp] theorem State.targetRead_cfg (s : State) (a : BusReg) : (s.targetRead a).2.cfg = s.cfg := by
  cases a <;> rfl

@[simp] theorem State.targetRead_clockHzIn (s : State) (a : BusReg) : (s.targetRead a).2.clockHzIn = s.clockHzIn := by
  cases a <;> rfl

@[simp] theorem State.targetRead_source (s : State) (a : BusReg) : (s.targetRead a).2.source = s.source := by
  cases a <;> rfl

@[simp] theorem State.targetRead_env (s : State) (a : BusReg) : (s.targetRead a).2.env = s.env := by
  cases a <;> rfl

@[simp] theorem State.targetRead_owned (s : State) (a : BusReg) : (s.targetRead a).2.owned = s.owned := by
  cases a <;> rfl

@[simp] theorem State.targetRead_seq (s : State) (a : BusReg) : (s.targetRead a).2.seq = s.seq := by
  cases a <;> rfl

@[simp] theorem State.targetRead_fault (s : State) (a : BusReg) : (s.targetRead a).2.fault = s.fault := by
  cases a <;> rfl

@[simp] theorem State.targetRead_fcode (s : State) (a : BusReg) : (s.targetRead a).2.fcode = s.fcode := by
  cases a <;> rfl

@[simp] theorem State.targetRead_clk (s : State) (a : BusReg) : (s.targetRead a).2.clk = s.clk := by
  cases a <;> rfl

@[simp] theorem State.targetRead_div (s : State) (a : BusReg) : (s.targetRead a).2.div = s.div := by
  cases a <;> rfl

@[simp] theorem State.targetRead_divHeld (s : State) (a : BusReg) : (s.targetRead a).2.divHeld = s.divHeld := by
  cases a <;> rfl

@[simp] theorem State.targetRead_ch (s : State) (a : BusReg) : (s.targetRead a).2.ch = s.ch := by
  cases a <;> rfl

@[simp] theorem State.targetRead_buf (s : State) (a : BusReg) : (s.targetRead a).2.buf = s.buf := by
  cases a <;> rfl

@[simp] theorem State.targetRead_len (s : State) (a : BusReg) : (s.targetRead a).2.len = s.len := by
  cases a <;> rfl

@[simp] theorem State.targetRead_idx (s : State) (a : BusReg) : (s.targetRead a).2.idx = s.idx := by
  cases a <;> rfl

@[simp] theorem State.targetRead_writeHeld (s : State) (a : BusReg) : (s.targetRead a).2.writeHeld = s.writeHeld := by
  cases a <;> rfl

@[simp] theorem State.targetRead_dstate (s : State) (a : BusReg) : (s.targetRead a).2.dstate = s.dstate := by
  cases a <;> rfl

@[simp] theorem State.targetRead_dphase (s : State) (a : BusReg) : (s.targetRead a).2.dphase = s.dphase := by
  cases a <;> rfl

@[simp] theorem State.targetRead_cnt (s : State) (a : BusReg) : (s.targetRead a).2.cnt = s.cnt := by
  cases a <;> rfl

@[simp] theorem State.targetRead_regs (s : State) (a : BusReg) : (s.targetRead a).2.regs = s.regs := by
  cases a <;> rfl

@[simp] theorem State.targetRead_locks (s : State) (a : BusReg) : (s.targetRead a).2.locks = s.locks := by
  cases a <;> rfl

@[simp] theorem State.targetRead_fifo (s : State) (a : BusReg) : (s.targetRead a).2.fifo = s.fifo := by
  cases a <;> rfl

@[simp] theorem State.targetRead_emit (s : State) (a : BusReg) : (s.targetRead a).2.emit = s.emit := by
  cases a <;> rfl

@[simp] theorem State.targetRead_trace (s : State) (a : BusReg) : (s.targetRead a).2.trace = s.trace := by
  cases a <;> rfl

@[simp] theorem State.drain_cfg (s : State) (ch : Chan) : (s.drain ch).cfg = s.cfg := by
  simp only [State.drain]; split <;> rfl

@[simp] theorem State.drain_clockHzIn (s : State) (ch : Chan) : (s.drain ch).clockHzIn = s.clockHzIn := by
  simp only [State.drain]; split <;> rfl

@[simp] theorem State.drain_source (s : State) (ch : Chan) : (s.drain ch).source = s.source := by
  simp only [State.drain]; split <;> rfl

@[simp] theorem State.drain_env (s : State) (ch : Chan) : (s.drain ch).env = s.env := by
  simp only [State.drain]; split <;> rfl

@[simp] theorem State.drain_fresh (s : State) (ch : Chan) : (s.drain ch).fresh = s.fresh := by
  simp only [State.drain]; split <;> rfl

@[simp] theorem State.drain_owned (s : State) (ch : Chan) : (s.drain ch).owned = s.owned := by
  simp only [State.drain]; split <;> rfl

@[simp] theorem State.drain_seq (s : State) (ch : Chan) : (s.drain ch).seq = s.seq := by
  simp only [State.drain]; split <;> rfl

@[simp] theorem State.drain_fault (s : State) (ch : Chan) : (s.drain ch).fault = s.fault := by
  simp only [State.drain]; split <;> rfl

@[simp] theorem State.drain_fcode (s : State) (ch : Chan) : (s.drain ch).fcode = s.fcode := by
  simp only [State.drain]; split <;> rfl

@[simp] theorem State.drain_clk (s : State) (ch : Chan) : (s.drain ch).clk = s.clk := by
  simp only [State.drain]; split <;> rfl

@[simp] theorem State.drain_div (s : State) (ch : Chan) : (s.drain ch).div = s.div := by
  simp only [State.drain]; split <;> rfl

@[simp] theorem State.drain_divHeld (s : State) (ch : Chan) : (s.drain ch).divHeld = s.divHeld := by
  simp only [State.drain]; split <;> rfl

@[simp] theorem State.drain_ch (s : State) (ch : Chan) : (s.drain ch).ch = s.ch := by
  simp only [State.drain]; split <;> rfl

@[simp] theorem State.drain_buf (s : State) (ch : Chan) : (s.drain ch).buf = s.buf := by
  simp only [State.drain]; split <;> rfl

@[simp] theorem State.drain_len (s : State) (ch : Chan) : (s.drain ch).len = s.len := by
  simp only [State.drain]; split <;> rfl

@[simp] theorem State.drain_idx (s : State) (ch : Chan) : (s.drain ch).idx = s.idx := by
  simp only [State.drain]; split <;> rfl

@[simp] theorem State.drain_writeHeld (s : State) (ch : Chan) : (s.drain ch).writeHeld = s.writeHeld := by
  simp only [State.drain]; split <;> rfl

@[simp] theorem State.drain_dstate (s : State) (ch : Chan) : (s.drain ch).dstate = s.dstate := by
  simp only [State.drain]; split <;> rfl

@[simp] theorem State.drain_dphase (s : State) (ch : Chan) : (s.drain ch).dphase = s.dphase := by
  simp only [State.drain]; split <;> rfl

@[simp] theorem State.drain_cnt (s : State) (ch : Chan) : (s.drain ch).cnt = s.cnt := by
  simp only [State.drain]; split <;> rfl

@[simp] theorem State.drain_regs (s : State) (ch : Chan) : (s.drain ch).regs = s.regs := by
  simp only [State.drain]; split <;> rfl

@[simp] theorem State.drain_locks (s : State) (ch : Chan) : (s.drain ch).locks = s.locks := by
  simp only [State.drain]; split <;> rfl

@[simp] theorem State.drain_trace (s : State) (ch : Chan) : (s.drain ch).trace = s.trace := by
  simp only [State.drain]; split <;> rfl

@[simp] theorem State.nextChoice_cfg (s : State) : s.nextChoice.2.cfg = s.cfg := by
  simp only [State.nextChoice]; split <;> rfl

@[simp] theorem State.nextChoice_clockHzIn (s : State) : s.nextChoice.2.clockHzIn = s.clockHzIn := by
  simp only [State.nextChoice]; split <;> rfl

@[simp] theorem State.nextChoice_source (s : State) : s.nextChoice.2.source = s.source := by
  simp only [State.nextChoice]; split <;> rfl

@[simp] theorem State.nextChoice_owned (s : State) : s.nextChoice.2.owned = s.owned := by
  simp only [State.nextChoice]; split <;> rfl

@[simp] theorem State.nextChoice_seq (s : State) : s.nextChoice.2.seq = s.seq := by
  simp only [State.nextChoice]; split <;> rfl

@[simp] theorem State.nextChoice_fault (s : State) : s.nextChoice.2.fault = s.fault := by
  simp only [State.nextChoice]; split <;> rfl

@[simp] theorem State.nextChoice_fcode (s : State) : s.nextChoice.2.fcode = s.fcode := by
  simp only [State.nextChoice]; split <;> rfl

@[simp] theorem State.nextChoice_clk (s : State) : s.nextChoice.2.clk = s.clk := by
  simp only [State.nextChoice]; split <;> rfl

@[simp] theorem State.nextChoice_div (s : State) : s.nextChoice.2.div = s.div := by
  simp only [State.nextChoice]; split <;> rfl

@[simp] theorem State.nextChoice_divHeld (s : State) : s.nextChoice.2.divHeld = s.divHeld := by
  simp only [State.nextChoice]; split <;> rfl

@[simp] theorem State.nextChoice_ch (s : State) : s.nextChoice.2.ch = s.ch := by
  simp only [State.nextChoice]; split <;> rfl

@[simp] theorem State.nextChoice_buf (s : State) : s.nextChoice.2.buf = s.buf := by
  simp only [State.nextChoice]; split <;> rfl

@[simp] theorem State.nextChoice_len (s : State) : s.nextChoice.2.len = s.len := by
  simp only [State.nextChoice]; split <;> rfl

@[simp] theorem State.nextChoice_idx (s : State) : s.nextChoice.2.idx = s.idx := by
  simp only [State.nextChoice]; split <;> rfl

@[simp] theorem State.nextChoice_writeHeld (s : State) : s.nextChoice.2.writeHeld = s.writeHeld := by
  simp only [State.nextChoice]; split <;> rfl

@[simp] theorem State.nextChoice_dstate (s : State) : s.nextChoice.2.dstate = s.dstate := by
  simp only [State.nextChoice]; split <;> rfl

@[simp] theorem State.nextChoice_dphase (s : State) : s.nextChoice.2.dphase = s.dphase := by
  simp only [State.nextChoice]; split <;> rfl

@[simp] theorem State.nextChoice_cnt (s : State) : s.nextChoice.2.cnt = s.cnt := by
  simp only [State.nextChoice]; split <;> rfl

@[simp] theorem State.nextChoice_regs (s : State) : s.nextChoice.2.regs = s.regs := by
  simp only [State.nextChoice]; split <;> rfl

@[simp] theorem State.nextChoice_locks (s : State) : s.nextChoice.2.locks = s.locks := by
  simp only [State.nextChoice]; split <;> rfl

@[simp] theorem State.nextChoice_fifo (s : State) : s.nextChoice.2.fifo = s.fifo := by
  simp only [State.nextChoice]; split <;> rfl

@[simp] theorem State.nextChoice_emit (s : State) : s.nextChoice.2.emit = s.emit := by
  simp only [State.nextChoice]; split <;> rfl

@[simp] theorem State.nextChoice_trace (s : State) : s.nextChoice.2.trace = s.trace := by
  simp only [State.nextChoice]; split <;> rfl

@[simp] theorem State.fetchCommand_cfg (s : State) : s.fetchCommand.2.cfg = s.cfg := by
  simp only [State.fetchCommand]; split <;> rfl

@[simp] theorem State.fetchCommand_clockHzIn (s : State) : s.fetchCommand.2.clockHzIn = s.clockHzIn := by
  simp only [State.fetchCommand]; split <;> rfl

@[simp] theorem State.fetchCommand_env (s : State) : s.fetchCommand.2.env = s.env := by
  simp only [State.fetchCommand]; split <;> rfl

@[simp] theorem State.fetchCommand_fresh (s : State) : s.fetchCommand.2.fresh = s.fresh := by
  simp only [State.fetchCommand]; split <;> rfl

@[simp] theorem State.fetchCommand_owned (s : State) : s.fetchCommand.2.owned = s.owned := by
  simp only [State.fetchCommand]; split <;> rfl

@[simp] theorem State.fetchCommand_seq (s : State) : s.fetchCommand.2.seq = s.seq := by
  simp only [State.fetchCommand]; split <;> rfl

@[simp] theorem State.fetchCommand_fault (s : State) : s.fetchCommand.2.fault = s.fault := by
  simp only [State.fetchCommand]; split <;> rfl

@[simp] theorem State.fetchCommand_fcode (s : State) : s.fetchCommand.2.fcode = s.fcode := by
  simp only [State.fetchCommand]; split <;> rfl

@[simp] theorem State.fetchCommand_clk (s : State) : s.fetchCommand.2.clk = s.clk := by
  simp only [State.fetchCommand]; split <;> rfl

@[simp] theorem State.fetchCommand_div (s : State) : s.fetchCommand.2.div = s.div := by
  simp only [State.fetchCommand]; split <;> rfl

@[simp] theorem State.fetchCommand_divHeld (s : State) : s.fetchCommand.2.divHeld = s.divHeld := by
  simp only [State.fetchCommand]; split <;> rfl

@[simp] theorem State.fetchCommand_ch (s : State) : s.fetchCommand.2.ch = s.ch := by
  simp only [State.fetchCommand]; split <;> rfl

@[simp] theorem State.fetchCommand_buf (s : State) : s.fetchCommand.2.buf = s.buf := by
  simp only [State.fetchCommand]; split <;> rfl

@[simp] theorem State.fetchCommand_len (s : State) : s.fetchCommand.2.len = s.len := by
  simp only [State.fetchCommand]; split <;> rfl

@[simp] theorem State.fetchCommand_idx (s : State) : s.fetchCommand.2.idx = s.idx := by
  simp only [State.fetchCommand]; split <;> rfl

@[simp] theorem State.fetchCommand_writeHeld (s : State) : s.fetchCommand.2.writeHeld = s.writeHeld := by
  simp only [State.fetchCommand]; split <;> rfl

@[simp] theorem State.fetchCommand_dstate (s : State) : s.fetchCommand.2.dstate = s.dstate := by
  simp only [State.fetchCommand]; split <;> rfl

@[simp] theorem State.fetchCommand_dphase (s : State) : s.fetchCommand.2.dphase = s.dphase := by
  simp only [State.fetchCommand]; split <;> rfl

@[simp] theorem State.fetchCommand_cnt (s : State) : s.fetchCommand.2.cnt = s.cnt := by
  simp only [State.fetchCommand]; split <;> rfl

@[simp] theorem State.fetchCommand_regs (s : State) : s.fetchCommand.2.regs = s.regs := by
  simp only [State.fetchCommand]; split <;> rfl

@[simp] theorem State.fetchCommand_locks (s : State) : s.fetchCommand.2.locks = s.locks := by
  simp only [State.fetchCommand]; split <;> rfl

@[simp] theorem State.fetchCommand_fifo (s : State) : s.fetchCommand.2.fifo = s.fifo := by
  simp only [State.fetchCommand]; split <;> rfl

@[simp] theorem State.fetchCommand_emit (s : State) : s.fetchCommand.2.emit = s.emit := by
  simp only [State.fetchCommand]; split <;> rfl

@[simp] theorem State.fetchCommand_trace (s : State) : s.fetchCommand.2.trace = s.trace := by
  simp only [State.fetchCommand]; split <;> rfl

/-! ## The target's reaction -/

theorem State.targetWrite_storage (s : State) (r : StorageReg) (v : Word) :
    s.targetWrite (.storage r) v = s.setRegs (if s.storageWritable r then s.regs.set r v else s.regs) := by
  simp only [State.targetWrite]; split <;> rfl

theorem State.targetWrite_unlock (s : State) (b : Block) (v : Word) :
    s.targetWrite (.unlock b) v = s.setLocks (if s.gate then s.locks.set b (v != s.cfg.key) else s.locks) := by
  simp only [State.targetWrite]; split <;> rfl

theorem State.targetWrite_port (s : State) (ch : Chan) (v : Word) :
    s.targetWrite (.port ch) v = s.setFifo ch (if s.ready ch then s.fifoAt ch ++ [v] else s.fifoAt ch) := by
  simp only [State.targetWrite]; split <;> simp

/-- A write to a register of the map leaves every other storage register alone. -/
theorem State.targetWrite_get_ne (s : State) (a : BusReg) (v : Word) (q : StorageReg) (h : a ≠ .storage q) :
    (s.targetWrite a v).regs.get q = s.regs.get q := by
  cases a with
  | storage r =>
    rw [State.targetWrite_storage]
    have : q ≠ r := fun e => h (by rw [e])
    split <;> simp [TargetRegs.get_set_ne _ _ _ _ this]
  | unlock b => rw [State.targetWrite_unlock]; rfl
  | port ch => rw [State.targetWrite_port]; rfl

/-- A write to a register of the map leaves every other channel's queue alone. -/
theorem State.targetWrite_fifoAt_ne (s : State) (a : BusReg) (v : Word) (ch : Chan) (h : a ≠ .port ch) :
    (s.targetWrite a v).fifoAt ch = s.fifoAt ch := by
  cases a with
  | storage r => rw [State.targetWrite_storage]; rfl
  | unlock b => rw [State.targetWrite_unlock]; rfl
  | port c =>
    rw [State.targetWrite_port]
    exact State.fifoAt_setFifo_ne _ _ _ _ fun e => h (by rw [e])

/-- The ready bit of the status word says Ready(ch) (R89): the mask has exactly one bit. -/
theorem State.statusWord_ready (s : State) (ch : Chan) (hm : s.cfg.stimReadyMask ≠ 0#32) :
    ((s.statusWord ch &&& s.cfg.stimReadyMask) != 0) = s.ready ch := by
  have hz : (Config.draw s.fresh &&& ~~~s.cfg.stimReadyMask) &&& s.cfg.stimReadyMask = 0#32 := by
    rw [BitVec.and_assoc, BitVec.and_comm (~~~_), BitVec.and_not_self]
    exact BitVec.and_zero
  have hd : ∀ x y m : Word, (x ||| y) &&& m = (x &&& m) ||| (y &&& m) := by
    intro x y m
    ext i hi
    simp [Bool.and_or_distrib_right]
  simp only [State.statusWord, hd, hz, BitVec.or_zero]
  cases s.ready ch <;> simp [hm]

/-- R9 (g) for STIM_READY_MASK. -/
theorem Cfg.readyMask_ne_zero {c : Cfg} (h : c.ok = true) : c.stimReadyMask ≠ 0#32 := by
  have hm := (Cfg.ok_parts h).2.2.2
  simp only [Cfg.masksOk, oneBitSet, Bool.and_eq_true, bne_iff_ne, ne_eq] at hm
  exact hm.1.1.2.1

/-! ## The bus primitives at an address of the map -/

theorem State.memRead_addrOf (s : State) (h : s.cfg.ok = true) (r : BusReg) (hr : s.cfg.mapped r) :
    s.memRead (s.cfg.addrOf r) =
      some ((s.targetRead r).1, (s.targetRead r).2.log ⟨.rd, s.cfg.addrOf r, (s.targetRead r).1⟩) := by
  rw [State.memRead, Cfg.regAt_addrOf h r hr]

theorem State.memWrite_addrOf (s : State) (h : s.cfg.ok = true) (r : BusReg) (hr : s.cfg.mapped r) (v : Word) :
    s.memWrite (s.cfg.addrOf r) v = some ((s.log ⟨.wr, s.cfg.addrOf r, v⟩).targetWrite r v) := by
  rw [State.memWrite, Cfg.regAt_addrOf h r hr]

/-! ## The classes of micro-operation -/

/-- WR-const and WR-reg at a register of the map: the write is recorded, the target reacts, SEQ moves on. -/
theorem State.writeThen_eq (s : State) (h : s.cfg.ok = true) (r : BusReg) (hr : s.cfg.mapped r) (v : Word) (n : BitVec 5) :
    s.writeThen (s.cfg.addrOf r) v n = .next (((s.log ⟨.wr, s.cfg.addrOf r, v⟩).targetWrite r v).setSeq n) := by
  rw [State.writeThen, State.memWrite_addrOf s h r hr]

/-- The RMW classes at a storage register: a read and a write, both recorded. -/
theorem State.modifyThen_eq (s : State) (h : s.cfg.ok = true) (r : StorageReg) (f : Word → Word) (n : BitVec 5) :
    s.modifyThen (s.cfg.addrOf (.storage r)) f n =
      .next (((((s.log ⟨.rd, s.cfg.addrOf (.storage r), s.regs.get r⟩).log
        ⟨.wr, s.cfg.addrOf (.storage r), f (s.regs.get r)⟩).targetWrite (.storage r) (f (s.regs.get r)))).setSeq n) := by
  rw [State.modifyThen, State.memRead_addrOf s h (.storage r) trivial]
  exact State.writeThen_eq (s.log ⟨.rd, s.cfg.addrOf (.storage r), s.regs.get r⟩) h (.storage r) trivial _ n

/-- WR-const at an unlock register: KEY clears the flag when the gate is open. -/
theorem State.writeThen_unlock (s : State) (h : s.cfg.ok = true) (b : Block) (n : BitVec 5) :
    s.writeThen (s.cfg.addrOf (.unlock b)) s.cfg.key n = .next { s with
      trace := s.trace ++ [⟨.wr, s.cfg.addrOf (.unlock b), s.cfg.key⟩]
      locks := if s.gate then s.locks.set b false else s.locks
      seq := n } := by
  rw [State.writeThen_eq s h (.unlock b) trivial, State.targetWrite_unlock]
  simp [State.setSeq, State.setLocks, State.log]
  rfl

/-- WR-const and WR-reg at a storage register. -/
theorem State.writeThen_storage (s : State) (h : s.cfg.ok = true) (r : StorageReg) (v : Word) (n : BitVec 5) :
    s.writeThen (s.cfg.addrOf (.storage r)) v n = .next { s with
      trace := s.trace ++ [⟨.wr, s.cfg.addrOf (.storage r), v⟩]
      regs := if s.storageWritable r then s.regs.set r v else s.regs
      seq := n } := by
  rw [State.writeThen_eq s h (.storage r) trivial, State.targetWrite_storage]
  simp [State.setSeq, State.setRegs, State.log]
  rfl

/-- The RMW classes at a storage register, as one record. -/
theorem State.modifyThen_storage (s : State) (h : s.cfg.ok = true) (r : StorageReg) (f : Word → Word) (n : BitVec 5) :
    s.modifyThen (s.cfg.addrOf (.storage r)) f n = .next { s with
      trace := s.trace ++
        [⟨.rd, s.cfg.addrOf (.storage r), s.regs.get r⟩, ⟨.wr, s.cfg.addrOf (.storage r), f (s.regs.get r)⟩]
      regs := if s.storageWritable r then s.regs.set r (f (s.regs.get r)) else s.regs
      seq := n } := by
  rw [State.modifyThen_eq s h, State.targetWrite_storage]
  simp [State.setSeq, State.setRegs, State.log]
  rfl

/-- A register of a block takes a write exactly when the gate is open and the block unlocked. -/
theorem State.storageWritable_iff (s : State) (r : StorageReg) (b : Block) (h : r.block = some b) :
    (s.storageWritable r = true) = (s.gate = true ∧ s.locks.get b = false) := by
  simp [State.storageWritable, h]

/-- POLL: one recorded read, one free value used, and a branch on Ready(CH). -/
theorem State.poll_eq (s : State) (h : s.cfg.ok = true) (hc : s.ch.toNat < s.cfg.nChannels) :
    s.poll = .next ((s.useFresh.log ⟨.rd, s.cfg.stimAddr s.ch, s.statusWord s.ch⟩).setSeq
      (if s.ready s.ch then Seq.wrPush else Seq.wrPoll)) := by
  have e := State.memRead_addrOf s h (.port s.ch) hc
  simp only [Cfg.addrOf, State.targetRead] at e
  simp only [State.poll, e, State.statusWord_ready s s.ch (Cfg.readyMask_ne_zero h)]

/-- PUSH: one recorded write, the word enters the FIFO when the port is ready, IDX advances. -/
theorem State.push_eq (s : State) (h : s.cfg.ok = true) (hc : s.ch.toNat < s.cfg.nChannels) :
    s.push = .next ((((s.log ⟨.wr, s.cfg.stimAddr s.ch, wordAt s.buf s.len s.idx⟩).targetWrite (.port s.ch)
      (wordAt s.buf s.len s.idx)).setIdx (s.idx + 1)).setSeq (if s.idx + 1 = s.nwords then Seq.idle else Seq.wrPoll)) := by
  have e := State.memWrite_addrOf s h (.port s.ch) hc (wordAt s.buf s.len s.idx)
  simp only [Cfg.addrOf] at e
  simp only [State.push, e]

/-! ## Inversions, under any configuration -/

/-- What a next state of WR-const and WR-reg is. -/
theorem State.writeThen_next {s t : State} {a v : Word} {n : BitVec 5} (h : s.writeThen a v n = .next t) :
    ∃ r, s.cfg.regAt a = some r ∧ t = ((s.log ⟨.wr, a, v⟩).targetWrite r v).setSeq n := by
  simp only [State.writeThen, State.memWrite] at h
  cases hr : s.cfg.regAt a with
  | none => rw [hr] at h; cases h
  | some r => rw [hr] at h; cases h; exact ⟨r, rfl, rfl⟩

/-- What a next state of the RMW classes is. -/
theorem State.modifyThen_next {s t : State} {a : Word} {f : Word → Word} {n : BitVec 5} (h : s.modifyThen a f n = .next t) :
    ∃ r, s.cfg.regAt a = some r ∧
      t = ((((s.targetRead r).2.log ⟨.rd, a, (s.targetRead r).1⟩).log ⟨.wr, a, f (s.targetRead r).1⟩).targetWrite r
        (f (s.targetRead r).1)).setSeq n := by
  simp only [State.modifyThen, State.memRead] at h
  cases hr : s.cfg.regAt a with
  | none => rw [hr] at h; cases h
  | some r =>
    rw [hr] at h
    obtain ⟨q, hq, e⟩ := State.writeThen_next h
    have hc : ((s.targetRead r).2.log ⟨.rd, a, (s.targetRead r).1⟩).cfg = s.cfg := by simp
    rw [hc, hr] at hq
    cases hq
    exact ⟨r, rfl, e⟩

/-- What a next state of POLL is. -/
theorem State.poll_next {s t : State} (h : s.poll = .next t) :
    ∃ r n, s.cfg.regAt (s.cfg.stimAddr s.ch) = some r ∧
      t = ((s.targetRead r).2.log ⟨.rd, s.cfg.stimAddr s.ch, (s.targetRead r).1⟩).setSeq n := by
  simp only [State.poll, State.memRead] at h
  cases hr : s.cfg.regAt (s.cfg.stimAddr s.ch) with
  | none => rw [hr] at h; cases h
  | some r => rw [hr] at h; cases h; exact ⟨r, _, rfl, rfl⟩

/-- What a next state of PUSH is. -/
theorem State.push_next {s t : State} (h : s.push = .next t) :
    ∃ r n, s.cfg.regAt (s.cfg.stimAddr s.ch) = some r ∧
      t = (((s.log ⟨.wr, s.cfg.stimAddr s.ch, wordAt s.buf s.len s.idx⟩).targetWrite r
        (wordAt s.buf s.len s.idx)).setIdx (s.idx + 1)).setSeq n := by
  simp only [State.push, State.memWrite] at h
  cases hr : s.cfg.regAt (s.cfg.stimAddr s.ch) with
  | none => rw [hr] at h; cases h
  | some r => rw [hr] at h; cases h; exact ⟨r, _, rfl, rfl⟩

/-- What `onNext` answers. -/
theorem onNext_next {o : Result} {f : State → State} {t : State} (h : onNext o f = .next t) :
    ∃ u, o = .next u ∧ t = f u := by
  cases o with
  | next s => cases h; exact ⟨s, rfl, rfl⟩
  | fault => cases h
  | refused => cases h

/-! ## Commands -/

theorem State.acquire_eq (s : State) :
    s.acquire = if s.owned then .next (s.raise ownershipTaken) else .next s.grant := rfl

/-- What a next state of a BRINGUP's acceptance is. -/
theorem State.acceptBringup_next {s t : State} {f : Word} (h : s.acceptBringup f = .next t) :
    s.owned = true ∧ s.cfg.targetBaudHz < f.toNat ∧ t = (s.latchClock f (s.cfg.divisor f)).setSeq Seq.bu01 := by
  simp only [State.acceptBringup] at h
  split at h
  · cases h
  · rename_i ho
    split at h
    · cases h
    · cases h
      refine ⟨by simpa using ho, by omega, rfl⟩

/-- What a next state of a WRITE's acceptance is. -/
theorem State.acceptWrite_next {s t : State} {ch : Chan} {bytes : List Byte} (h : s.acceptWrite ch bytes = .next t) :
    s.owned = true ∧ ch.toNat < s.cfg.nChannels ∧
      ((wordCount bytes.length = 0 ∧ t = (s.latchWrite ch bytes).setSeq Seq.idle) ∨
        (wordCount bytes.length ≠ 0 ∧ t = (s.latchWrite ch bytes).setSeq Seq.wrPoll)) := by
  simp only [State.acceptWrite] at h
  split at h
  · cases h
  · rename_i ho
    split at h
    · cases h
    · split at h
      · split at h
        · cases h
          exact ⟨by simpa using ho, by omega, .inl ⟨‹_›, rfl⟩⟩
        · cases h
      · cases h
        exact ⟨by simpa using ho, by omega, .inr ⟨‹_›, rfl⟩⟩

/-! ## The environment and the step -/

/-- The drain takes the oldest word of the queue, or there is none to take. -/
theorem State.drain_cases (s : State) (ch : Chan) :
    (s.fifoAt ch = [] ∧ s.drain ch = s) ∨
      ∃ w q, s.fifoAt ch = w :: q ∧ s.drain ch = (s.setFifo ch q).addEmit ch w := by
  cases h : s.fifoAt ch with
  | nil => exact .inl ⟨rfl, by simp [State.drain, h]⟩
  | cons w q => exact .inr ⟨w, q, rfl, by simp [State.drain, h]⟩

/-- What a next state of a step is: the machine's own, the drain's, or the reset's. -/
theorem step_next {s t : State} (h : step s = .next t) :
    s.cfg.ok = true ∧
      ((s.nextChoice.1 = .proceed ∧ proceed s.nextChoice.2 = .next t) ∨
        (∃ ch, s.nextChoice.1 = .drain ch ∧ t = s.nextChoice.2.drain ch) ∨
        (s.nextChoice.1 = .reset ∧ t = s.nextChoice.2.externalReset)) := by
  simp only [step] at h
  split at h
  · refine ⟨‹_›, ?_⟩
    split at h
    · rename_i u e
      exact .inl ⟨by rw [e], by rw [e]; exact h⟩
    · rename_i c u e
      cases h
      exact .inr (.inl ⟨c, by rw [e], by rw [e]⟩)
    · rename_i u e
      cases h
      exact .inr (.inr ⟨by rw [e], by rw [e]⟩)
  · cases h

/-- A step in which the machine moves. -/
theorem step_proceed {s u : State} (h : s.cfg.ok = true) (hn : s.nextChoice = (.proceed, u)) : step s = proceed u := by
  simp [step, h, hn]

/-- A step in which the drain moves. -/
theorem step_drain {s u : State} {ch : Chan} (h : s.cfg.ok = true) (hn : s.nextChoice = (.drain ch, u)) :
    step s = .next (u.drain ch) := by
  simp [step, h, hn]

/-- A step in which the reset arrives. -/
theorem step_reset {s u : State} (h : s.cfg.ok = true) (hn : s.nextChoice = (.reset, u)) :
    step s = .next u.externalReset := by
  simp [step, h, hn]

/-- While the list of choices lasts, its head is the choice. -/
theorem State.nextChoice_cons {s : State} {e : EnvAction} {rest : List EnvAction} (h : s.env = e :: rest) :
    s.nextChoice = (e, { s with env := rest }) := by
  simp [State.nextChoice, h]

/-- A code that names no operation is IDLE, HALT or reserved; one that names one is none of the three. -/
theorem decodeUop_ne_idle {q : BitVec 5} {i : Instr} (h : decodeUop q = .ok i) : q ≠ Seq.idle := by
  rintro rfl
  have e : decodeUop Seq.idle = .error .idleCode := by decide
  rw [e] at h
  cases h

/-- The fetch of a micro-operation. -/
theorem State.fetch_of_code {s : State} {i : Instr} (h : decodeUop s.seq = .ok i) : s.fetch = .run i s := by
  have hi : s.accepting = false := by simp [State.accepting, decodeUop_ne_idle h]
  simp [State.fetch, hi, h]

/-- The fetch of a command. -/
theorem State.fetch_of_idle {s : State} (h : s.seq = Seq.idle) (hf : s.fault = false) :
    s.fetch = .run s.fetchCommand.1 s.fetchCommand.2 := by
  simp [State.fetch, State.accepting, h, hf]

/-- Nothing is fetched from HALT. -/
theorem State.fetch_of_halt {s : State} (h : s.seq = Seq.halt) : s.fetch = .nothing := by
  have e : decodeUop Seq.halt = .error .haltCode := by decide
  have hi : s.accepting = false := by
    have hn : (Seq.halt == Seq.idle) = false := by decide
    rw [State.accepting, h, hn, Bool.false_and]
  simp [State.fetch, hi, h, e]

/-- What the machine's own step is: a command while it accepts one, a micro-operation otherwise. -/
theorem proceed_next {s t : State} (h : proceed s = .next t) :
    (s.accepting = true ∧ exec s.fetchCommand.1 s.fetchCommand.2 = .next t) ∨
      (s.accepting = false ∧ ∃ i, decodeUop s.seq = .ok i ∧ exec i s = .next t) := by
  simp only [proceed, State.fetch] at h
  cases ha : s.accepting
  · rw [ha] at h
    simp only [Bool.false_eq_true, if_false] at h
    cases hd : decodeUop s.seq with
    | ok i => rw [hd] at h; exact .inr ⟨rfl, i, rfl, h⟩
    | error e => rw [hd] at h; cases e <;> cases h
  · rw [ha] at h
    exact .inl ⟨rfl, h⟩

end Sys2Proof.Machine
end

