-- ==== Sys2Proof/Laws/PerInstr.lean ====
section
/-! SUPPORT. One family of statements for every operation: its row of the opcode table. The row's width and code, read as a
table word, are that operation with its operands zero. -/

namespace Sys2Proof

/-- The width in bits of a format's code (spec/30_encoding.md R122, R123, R125). -/
def Format.codeBits : Format → Nat
  | .cmd => 2
  | .uop => 5
  | .drv => 1

/-- The format a raw form belongs to. -/
def Raw.format : Raw → Format
  | .cmd _ => .cmd
  | .uop _ => .uop
  | .drv _ => .drv

/-- The code a raw form carries, as the number the opcode table calls `match`. -/
def Raw.code : Raw → Nat
  | .cmd r => r.cmd.toNat
  | .uop seq => seq.toNat
  | .drv d => d.toNat

/-- An operation with its operands zero or empty, which is all a table word can say of it. -/
def Instr.bare : Instr → Instr
  | .bringup _ => .bringup 0#32
  | .write _ _ => .write 0#5 []
  | i => i

/-- The operation's row: its raw form is of its format, its code fits the format's width, and that width and code are read
back as the operation. -/
def Laws.TableRow.Statement (i : Instr) : Prop :=
  (encode i).format = i.format ∧ (encode i).code < 2 ^ i.format.codeBits ∧
    decodeTableWord i.format.codeBits (encode i).code = some i.bare

theorem Laws.TableRow.none : Laws.TableRow.Statement .none := ⟨rfl, by decide, rfl⟩

theorem Laws.TableRow.acquire : Laws.TableRow.Statement .acquire := ⟨rfl, by decide, rfl⟩

theorem Laws.TableRow.bringup (f : Word) : Laws.TableRow.Statement (.bringup f) := ⟨rfl, (by decide : 2 < 2 ^ 2), rfl⟩

theorem Laws.TableRow.write (ch : Chan) (bytes : List Byte) : Laws.TableRow.Statement (.write ch bytes) := ⟨rfl, (by decide : 3 < 2 ^ 2), rfl⟩

theorem Laws.TableRow.bu01 : Laws.TableRow.Statement .bu01 := ⟨rfl, by decide, rfl⟩

theorem Laws.TableRow.bu02 : Laws.TableRow.Statement .bu02 := ⟨rfl, by decide, rfl⟩

theorem Laws.TableRow.bu03 : Laws.TableRow.Statement .bu03 := ⟨rfl, by decide, rfl⟩

theorem Laws.TableRow.bu04 : Laws.TableRow.Statement .bu04 := ⟨rfl, by decide, rfl⟩

theorem Laws.TableRow.bu05 : Laws.TableRow.Statement .bu05 := ⟨rfl, by decide, rfl⟩

theorem Laws.TableRow.bu06 : Laws.TableRow.Statement .bu06 := ⟨rfl, by decide, rfl⟩

theorem Laws.TableRow.bu07 : Laws.TableRow.Statement .bu07 := ⟨rfl, by decide, rfl⟩

theorem Laws.TableRow.bu08 : Laws.TableRow.Statement .bu08 := ⟨rfl, by decide, rfl⟩

theorem Laws.TableRow.bu09 : Laws.TableRow.Statement .bu09 := ⟨rfl, by decide, rfl⟩

theorem Laws.TableRow.bu10 : Laws.TableRow.Statement .bu10 := ⟨rfl, by decide, rfl⟩

theorem Laws.TableRow.bu11 : Laws.TableRow.Statement .bu11 := ⟨rfl, by decide, rfl⟩

theorem Laws.TableRow.bu12 : Laws.TableRow.Statement .bu12 := ⟨rfl, by decide, rfl⟩

theorem Laws.TableRow.bu13 : Laws.TableRow.Statement .bu13 := ⟨rfl, by decide, rfl⟩

theorem Laws.TableRow.bu14 : Laws.TableRow.Statement .bu14 := ⟨rfl, by decide, rfl⟩

theorem Laws.TableRow.wrPoll : Laws.TableRow.Statement .wrPoll := ⟨rfl, by decide, rfl⟩

theorem Laws.TableRow.wrPush : Laws.TableRow.Statement .wrPush := ⟨rfl, by decide, rfl⟩

theorem Laws.TableRow.drvInit : Laws.TableRow.Statement .drvInit := ⟨rfl, by decide, rfl⟩

theorem Laws.TableRow.drvRun : Laws.TableRow.Statement .drvRun := ⟨rfl, by decide, rfl⟩

end Sys2Proof
end

