-- ==== Sys2Proof/WellFormed.lean ====
section
/-! DEFINITION. Which operations are legal as written under a configuration: the illegal operands of
spec/30_encoding.md R136. -/

namespace Sys2Proof

/-- R136: a BRINGUP's clock is above TARGET_BAUD_HZ, a WRITE's channel is below N_CHANNELS; every other operation has no
operand. -/
def Instr.wf (c : Cfg) : Instr → Bool
  | .bringup f => decide (c.targetBaudHz < f.toNat)
  | .write ch _ => decide (ch.toNat < c.nChannels)
  | .none | .acquire => true
  | .bu01 | .bu02 | .bu03 | .bu04 | .bu05 | .bu06 | .bu07 | .bu08 | .bu09 | .bu10 | .bu11 | .bu12 | .bu13 | .bu14 => true
  | .wrPoll | .wrPush | .drvInit | .drvRun => true

end Sys2Proof
end

