-- ==== Sys2Proof/Tests/Slice0.lean ====
section
/-! SUPPORT. The model's own tests. Expected values come from spec/95_test_vectors.md (its vectors S, V, P), from the tables of
spec/30_encoding.md, or by hand from the rule a comment names. After them, one witness for the hypotheses of each statement of
Certificates/Slice0/Obligations.lean. -/

namespace Sys2Proof.Machine

/-! The theorems below evaluate in the kernel; they are elaborated one after the other, not all at once. -/
set_option Elab.async false

/-! ## Helpers -/

/-- What `f` reads from the next state; `none` where there is none. -/
def seen {α : Type} (o : Result) (f : State → α) : Option α :=
  match o with
  | .next t => some (f t)
  | .fault _ => none
  | .refused _ => none

/-- The refusal an outcome is. -/
def refusalOf (o : Result) : Option Refusal :=
  match o with
  | .refused r => some r
  | .next _ => none
  | .fault _ => none

/-- The outcome is a next state. -/
def isNext (o : Result) : Bool := (seen o fun _ => ()).isSome

theorem exists_next {o : Result} (h : isNext o = true) : ∃ t, o = .next t := by
  cases o with
  | next t => exact ⟨t, rfl⟩
  | fault r => cases h
  | refused r => cases h

theorem exists_next_with {o : Result} {f : State → Bool} (h : seen o f = some true) : ∃ t, o = .next t ∧ f t = true := by
  cases o with
  | next t => exact ⟨t, rfl, by simpa [seen] using h⟩
  | fault r => cases h
  | refused r => cases h

theorem no_reset_of {s : State} (h : (s.nextChoice.1 != .reset) = true) : s.noResetNext := by
  simpa [State.noResetNext] using h

/-- Reset with the gate open and the three blocks unlocked, as after BU01, BU02, BU07, BU09. -/
def openState : State :=
  { State.reset with regs := { TargetRegs.vectorInit with dbgen := 0x01000000#32 }, locks := ⟨false, false, false⟩ }

/-- The end of program P1: acquired, brought up at 8 MHz, with the end table of P1. -/
def upState : State :=
  { State.reset with
    owned := true, clk := 8000000#32, div := 7#32, divHeld := true, dstate := 1#1, locks := ⟨false, false, false⟩
    regs := ⟨0x01000000#32, 0x1#32, 0x7#32, 0x2#32, 0x100#32, 0x400003FE#32, 0x0#32, 0x11D#32, 0x1#32, 0x27#32⟩ }

/-- Program P2 after its step 1: the five-byte WRITE is accepted. -/
def writeState : State :=
  { upState with
    ch := 0#5, buf := [0x41#8, 0x42#8, 0x43#8, 0x44#8, 0x45#8], len := 5, idx := 0, writeHeld := true, seq := 0x10#5 }

/-- Program P2 after its step 2: the port was ready. -/
def pushState : State := { writeState with seq := 0x11#5 }

/-- Program P2 after its step 3: the FIFO of channel 0 is full. -/
def fullState : State :=
  { writeState with
    idx := 1, fifo := (Vector.replicate 32 []).set 0 [0x44434241#32], trace := [⟨.wr, 0xE0000000#32, 0x44434241#32⟩] }

/-- A writer that polls channel 1, which a bring-up leaves disabled. -/
def spinState : State := { writeState with ch := 1#5 }

/-- The state after the fault. -/
def haltState : State := { State.reset with owned := true, fault := true, fcode := 1#2, seq := 0x1F#5 }

/-! ## Well-formedness and the configuration (R136, R9): each check refuses an ill-formed term -/

theorem test_wf_bringup_at_the_baud_is_ill_formed : Instr.wf Cfg.pRef (.bringup 1000000#32) = false := by decide
theorem test_wf_bringup_above_the_baud : Instr.wf Cfg.pRef (.bringup 1000001#32) = true := by decide
theorem test_wf_write_channel_at_n_channels_is_ill_formed :
    Instr.wf { Cfg.pRef with nChannels := 8 } (.write 8#5 [0x41#8]) = false := by decide
theorem test_wf_write_last_channel : Instr.wf { Cfg.pRef with nChannels := 8 } (.write 7#5 []) = true := by decide

theorem test_cfg_p_ref_is_ok : Cfg.pRef.ok = true := by decide +kernel
theorem test_cfg_misaligned_address : ({ Cfg.pRef with aFmtDiv := 0xE0040011#32 } : Cfg).ok = false := by decide +kernel
theorem test_cfg_last_port_above_the_bus : ({ Cfg.pRef with aStimBase := 0xFFFFFF88#32 } : Cfg).ok = false := by decide +kernel
theorem test_cfg_last_port_at_the_top : ({ Cfg.pRef with aStimBase := 0xFFFFFF80#32 } : Cfg).ok = true := by decide +kernel
theorem test_cfg_two_registers_at_one_address :
    ({ Cfg.pRef with aFmtDiv := 0xE0040004#32 } : Cfg).ok = false := by decide +kernel
theorem test_cfg_register_at_a_port : ({ Cfg.pRef with aDbgctl := 0xE000007C#32 } : Cfg).ok = false := by decide +kernel
theorem test_cfg_register_after_the_last_port :
    ({ Cfg.pRef with aDbgctl := 0xE0000080#32 } : Cfg).ok = true := by decide +kernel
theorem test_cfg_baud_zero : ({ Cfg.pRef with targetBaudHz := 0 } : Cfg).ok = false := by decide +kernel
theorem test_cfg_seven_channels : ({ Cfg.pRef with nChannels := 7 } : Cfg).ok = false := by decide +kernel
theorem test_cfg_thirty_three_channels : ({ Cfg.pRef with nChannels := 33 } : Cfg).ok = false := by decide +kernel
theorem test_cfg_fifo_depth_zero : ({ Cfg.pRef with fifoDepth := 0 } : Cfg).ok = false := by decide +kernel
theorem test_cfg_mode_outside_clear : ({ Cfg.pRef with dbgctlClearMask := 0x60#32 } : Cfg).ok = false := by decide +kernel
theorem test_cfg_ioen_inside_mode : ({ Cfg.pRef with dbgctlIoenMask := 0x40#32 } : Cfg).ok = false := by decide +kernel
theorem test_cfg_two_ready_bits : ({ Cfg.pRef with stimReadyMask := 0x3#32 } : Cfg).ok = false := by decide +kernel
theorem test_cfg_no_trace_bit : ({ Cfg.pRef with dbgenTraceMask := 0x0#32 } : Cfg).ok = false := by decide +kernel
theorem test_cfg_no_instr_bit : ({ Cfg.pRef with itmEnInstr := 0x0#32 } : Cfg).ok = false := by decide +kernel

/-! ## Decoding: every row's code bit by bit (R122, R123, R125), and the codes that name no operation (R123, R135) -/

theorem test_decode_none : decodeTableWord 2 0b00 = some .none := by decide
/-- R123: SEQ = 0x00 is IDLE, not an operation. -/
theorem test_decode_idle_is_no_operation : decodeTableWord 5 0x00 = none := by decide
theorem test_decode_acquire : decodeTableWord 2 0b01 = some .acquire := by decide
theorem test_decode_bringup : decode (.cmd ⟨0b10#2, 0x007A1200#32, 3#5, [1#8]⟩) = .ok (.bringup 8000000#32) := by decide
theorem test_decode_write :
    decode (.cmd ⟨0b11#2, 0x007A1200#32, 0b00000#5, [0x41#8, 0x42#8]⟩) = .ok (.write 0#5 [0x41#8, 0x42#8]) := by decide
theorem test_decode_bu01 : decode (.uop 0b00001#5) = .ok .bu01 := by decide
theorem test_decode_bu02 : decode (.uop 0b00010#5) = .ok .bu02 := by decide
theorem test_decode_bu03 : decode (.uop 0b00011#5) = .ok .bu03 := by decide
theorem test_decode_bu04 : decode (.uop 0b00100#5) = .ok .bu04 := by decide
theorem test_decode_bu05 : decode (.uop 0b00101#5) = .ok .bu05 := by decide
theorem test_decode_bu06 : decode (.uop 0b00110#5) = .ok .bu06 := by decide
theorem test_decode_bu07 : decode (.uop 0b00111#5) = .ok .bu07 := by decide
theorem test_decode_bu08 : decode (.uop 0b01000#5) = .ok .bu08 := by decide
theorem test_decode_bu09 : decode (.uop 0b01001#5) = .ok .bu09 := by decide
theorem test_decode_bu10 : decode (.uop 0b01010#5) = .ok .bu10 := by decide
theorem test_decode_bu11 : decode (.uop 0b01011#5) = .ok .bu11 := by decide
theorem test_decode_bu12 : decode (.uop 0b01100#5) = .ok .bu12 := by decide
theorem test_decode_bu13 : decode (.uop 0b01101#5) = .ok .bu13 := by decide
theorem test_decode_bu14 : decode (.uop 0b01110#5) = .ok .bu14 := by decide
theorem test_decode_wr_poll : decode (.uop 0b10000#5) = .ok .wrPoll := by decide
theorem test_decode_wr_push : decode (.uop 0b10001#5) = .ok .wrPush := by decide
theorem test_decode_drv_init : decode (.drv 0b0#1) = .ok .drvInit := by decide
theorem test_decode_drv_run : decode (.drv 0b1#1) = .ok .drvRun := by decide
theorem test_decode_idle_and_halt :
    decode (.uop 0b00000#5) = .error .idleCode ∧ decode (.uop 0b11111#5) = .error .haltCode := by decide
theorem test_decode_reserved :
    decode (.uop 0b01111#5) = .error (.reservedCode 0b01111#5) ∧ decode (.uop 0b10010#5) = .error (.reservedCode 0b10010#5) ∧
      decode (.uop 0b11110#5) = .error (.reservedCode 0b11110#5) := by decide

/-! ## Operand assembly (V1, V2, R131) and the textual form (R137) -/

theorem test_divisor :
    [8000000#32, 1000001#32, 1999999#32, 2000000#32, 72000000#32, 4294967295#32].map Cfg.pRef.divisor =
      [0x7#32, 0x0#32, 0x0#32, 0x1#32, 0x47#32, 0x10C5#32] := by decide +kernel
theorem test_divisor_other_bauds :
    ({ Cfg.pRef with targetBaudHz := 115200 } : Cfg).divisor 8000000#32 = 0x44#32 ∧
      ({ Cfg.pRef with targetBaudHz := 1 } : Cfg).divisor 4294967295#32 = 0xFFFFFFFE#32 := by decide +kernel
theorem test_words :
    wordsOf [0x41#8, 0x42#8, 0x43#8, 0x44#8, 0x45#8] = [0x44434241#32, 0x00000045#32] ∧ wordsOf [] = [] ∧
      wordsOf [0xDE#8, 0xAD#8, 0xBE#8, 0xEF#8] = [0xEFBEADDE#32] ∧ wordsOf [0#8] = [0#32] := by decide +kernel
theorem test_itm_ctrl_value : Cfg.pRef.itmCtrlValue = 0x0000011D#32 := by decide
theorem test_text :
    (Instr.write 0#5 [0x41#8, 0xBE#8]).text = "write 0, [41, BE]" ∧ (Instr.bringup 8000000#32).text = "bring_up 8000000" := by
  decide +kernel

/-! ## Commands and the driver (V6, V8, P6) -/

theorem test_none : exec .none State.reset = .next State.reset := rfl
theorem test_acquire :
    seen (exec .acquire State.reset) (fun t => (t.owned, t.seq, t.fault, t.trace)) = some (true, 0x00#5, false, []) := by decide
theorem test_acquire_twice :
    seen (exec .acquire { State.reset with owned := true }) (fun t => (t.owned, t.seq, t.fault, t.fcode)) =
      some (true, 0x1F#5, true, 1#2) := by decide
theorem test_bringup :
    seen (exec (.bringup 8000000#32) { State.reset with owned := true }) (fun t => (t.clk, t.div, t.seq, t.trace)) =
      some (8000000#32, 7#32, 0x01#5, []) := by decide +kernel
theorem test_bringup_refused :
    refusalOf (exec (.bringup 8000000#32) State.reset) = some .noHandle ∧
      refusalOf (exec (.bringup 1000000#32) { State.reset with owned := true }) = some .clockOutOfRange := by decide +kernel
theorem test_write :
    seen (exec (.write 0#5 [0x41#8, 0x42#8, 0x43#8, 0x44#8, 0x45#8]) upState) (fun t => (t.ch, t.len, t.idx, t.seq)) =
      some (0#5, 5, 0, 0x10#5) := by decide +kernel
theorem test_write_empty :
    seen (exec (.write 0#5 []) upState) (fun t => (t.len, t.seq, t.trace)) = some (0, 0x00#5, []) ∧
      refusalOf (exec (.write 0#5 [0x41#8]) State.reset) = some .noHandle := by decide +kernel
theorem test_drv_init_acquires :
    seen (step State.reset) (fun t => (t.owned, t.dstate, t.dphase, t.seq)) = some (true, 0#1, 1#1, 0x00#5) := by decide +kernel
theorem test_drv_init_brings_up :
    seen (exec .drvInit { State.reset with owned := true, dphase := 1#1 }) (fun t => (t.div, t.dstate, t.dphase, t.seq)) =
      some (7#32, 1#1, 0#1, 0x01#5) := by decide +kernel
theorem test_drv_run_writes :
    seen (exec .drvRun { upState with cnt := 0x7F#8 }) (fun t => (wordsOf t.buf, t.cnt, t.dphase, t.seq)) =
      some ([0x7F7F7F7F#32, 0x7F7F7F7F#32], 0x7F#8, 1#1, 0x10#5) := by decide +kernel
theorem test_drv_run_counter_wraps :
    seen (exec .drvRun { upState with cnt := 0xFF#8, dphase := 1#1 }) (fun t => (t.cnt, t.dphase)) = some (0x00#8, 0#1) := by
  decide +kernel

/-! ## Bring-up micro-operations (V3, V4, P1) -/

theorem test_bu01 :
    seen (exec .bu01 { State.reset with regs := { TargetRegs.vectorInit with dbgen := 0xFEFFFFFF#32 } })
        (fun t => (t.regs.dbgen, t.trace, t.seq)) =
      some (0xFFFFFFFF#32, [⟨.rd, 0xE000EDFC#32, 0xFEFFFFFF#32⟩, ⟨.wr, 0xE000EDFC#32, 0xFFFFFFFF#32⟩], 0x02#5) := by
  decide +kernel
theorem test_bu02 :
    seen (exec .bu02 { openState with locks := ⟨true, true, true⟩ }) (fun t => (t.locks, t.trace, t.seq)) =
      some (⟨false, true, true⟩, [⟨.wr, 0xE0040FB0#32, 0xC5ACCE55#32⟩], 0x03#5) := by decide +kernel
theorem test_bu02_gated : seen (exec .bu02 State.reset) (fun t => t.locks) = some ⟨true, true, true⟩ := by decide +kernel
theorem test_bu03 :
    seen (exec .bu03 openState) (fun t => (t.regs.fmtWidth, t.trace, t.seq)) =
      some (0x1#32, [⟨.wr, 0xE0040004#32, 0x1#32⟩], 0x04#5) := by decide +kernel
theorem test_bu04 :
    seen (exec .bu04 { openState with div := 7#32, divHeld := true }) (fun t => (t.regs.fmtDiv, t.trace, t.seq)) =
      some (0x7#32, [⟨.wr, 0xE0040010#32, 0x7#32⟩], 0x05#5) := by decide +kernel
theorem test_bu04_locked :
    seen (exec .bu04 { openState with div := 7#32, divHeld := true, locks := ⟨true, false, false⟩ })
        (fun t => (t.regs.fmtDiv, t.trace)) = some (0x0#32, [⟨.wr, 0xE0040010#32, 0x7#32⟩]) := by decide +kernel
theorem test_bu05 :
    seen (exec .bu05 openState) (fun t => (t.regs.fmtMode, t.trace, t.seq)) =
      some (0x2#32, [⟨.wr, 0xE00400F0#32, 0x2#32⟩], 0x06#5) := by decide +kernel
theorem test_bu06 :
    seen (exec .bu06 openState) (fun t => (t.regs.fmtFrame, t.trace, t.seq)) =
      some (0x100#32, [⟨.rd, 0xE0040304#32, 0x102#32⟩, ⟨.wr, 0xE0040304#32, 0x100#32⟩], 0x07#5) := by decide +kernel
theorem test_bu06_locked :
    seen (exec .bu06 { openState with locks := ⟨true, false, false⟩ }) (fun t => (t.regs.fmtFrame, t.trace)) =
      some (0x102#32, [⟨.rd, 0xE0040304#32, 0x102#32⟩, ⟨.wr, 0xE0040304#32, 0x100#32⟩]) := by decide +kernel
theorem test_bu07 :
    seen (exec .bu07 { openState with locks := ⟨true, true, true⟩ }) (fun t => (t.locks, t.trace, t.seq)) =
      some (⟨true, false, true⟩, [⟨.wr, 0xE0001FB0#32, 0xC5ACCE55#32⟩], 0x08#5) := by decide +kernel
theorem test_bu08 :
    seen (exec .bu08 openState) (fun t => (t.regs.syncCtrl, t.trace, t.seq)) =
      some (0x400003FE#32, [⟨.wr, 0xE0001000#32, 0x400003FE#32⟩], 0x09#5) := by decide +kernel
theorem test_bu08_other_block_unlocked :
    seen (exec .bu08 { openState with locks := ⟨false, true, false⟩ }) (fun t => t.regs.syncCtrl) = some 0x40000000#32 := by
  decide +kernel
theorem test_bu09 :
    seen (exec .bu09 { openState with locks := ⟨true, true, true⟩ }) (fun t => (t.locks, t.trace, t.seq)) =
      some (⟨true, true, false⟩, [⟨.wr, 0xE0000FB0#32, 0xC5ACCE55#32⟩], 0x0A#5) := by decide +kernel
theorem test_bu10 :
    seen (exec .bu10 openState) (fun t => (t.regs.itmPriv, t.trace, t.seq)) =
      some (0x0#32, [⟨.wr, 0xE0000E40#32, 0x0#32⟩], 0x0B#5) := by decide +kernel
theorem test_bu11 :
    seen (exec .bu11 openState) (fun t => (t.regs.itmCtrl, t.trace, t.seq)) =
      some (0x11D#32, [⟨.wr, 0xE0000E80#32, 0x11D#32⟩], 0x0C#5) := by decide +kernel
theorem test_bu12 :
    seen (exec .bu12 { openState with locks := ⟨true, true, false⟩ }) (fun t => (t.regs.itmChen, t.trace, t.seq)) =
      some (0x1#32, [⟨.wr, 0xE0000E00#32, 0x1#32⟩], 0x0D#5) := by decide +kernel
theorem test_bu13 :
    seen (exec .bu13 State.reset) (fun t => (t.regs.dbgctl, t.trace, t.seq)) =
      some (0x7#32, [⟨.rd, 0xE0042004#32, 0xC7#32⟩, ⟨.wr, 0xE0042004#32, 0x7#32⟩], 0x0E#5) := by decide +kernel
theorem test_bu14 :
    seen (exec .bu14 { State.reset with regs := { TargetRegs.vectorInit with dbgctl := 0xFFFFFF1F#32 } })
        (fun t => (t.regs.dbgctl, t.trace, t.seq)) =
      some (0xFFFFFF3F#32, [⟨.rd, 0xE0042004#32, 0xFFFFFF1F#32⟩, ⟨.wr, 0xE0042004#32, 0xFFFFFF3F#32⟩], 0x00#5) := by
  decide +kernel

/-! ## Writer, target and environment (V4, V5, P2). The datum of a poll is not looked at: 31 of its bits are free. -/

theorem test_wr_poll_ready :
    seen (exec .wrPoll writeState) (fun t => (t.seq, t.idx, t.trace.map BusTxn.addr)) = some (0x11#5, 0, [0xE0000000#32]) := by
  rw [show exec .wrPoll writeState = _ from State.poll_eq writeState test_cfg_p_ref_is_ok (by decide)]
  decide +kernel
theorem test_wr_poll_full :
    seen (exec .wrPoll fullState) (fun t => (t.seq, t.fifoAt 0#5)) = some (0x10#5, [0x44434241#32]) := by
  rw [show exec .wrPoll fullState = _ from State.poll_eq fullState test_cfg_p_ref_is_ok (by decide)]
  decide +kernel
theorem test_wr_push_first :
    seen (exec .wrPush pushState) (fun t => (t.fifoAt 0#5, t.idx, t.seq, t.trace)) =
      some ([0x44434241#32], 1, 0x10#5, [⟨.wr, 0xE0000000#32, 0x44434241#32⟩]) := by decide +kernel
theorem test_wr_push_last :
    seen (exec .wrPush { pushState with idx := 1 }) (fun t => (t.fifoAt 0#5, t.idx, t.seq)) = some ([0x45#32], 2, 0x00#5) := by
  decide +kernel
theorem test_port_address : Cfg.pRef.stimAddr 3#5 = 0xE000000C#32 ∧ Cfg.pRef.stimAddr 31#5 = 0xE000007C#32 := by decide
theorem test_lock_takes_only_the_key :
    (({ openState with locks := ⟨true, true, true⟩ } : State).memWrite 0xE0040FB0#32 0xC5ACCE54#32).map State.locks =
        some ⟨true, true, true⟩ ∧
      (openState.memWrite 0xE0040FB0#32 0x0#32).map State.locks = some ⟨true, false, false⟩ := by decide +kernel
theorem test_full_port_loses_the_word :
    (fullState.memWrite 0xE0000000#32 0x12345678#32).map (fun t => t.fifoAt 0#5) = some [0x44434241#32] := by decide +kernel
theorem test_drain :
    seen (step { fullState with env := [.drain 0#5] }) (fun t => (t.fifoAt 0#5, t.emit, t.env)) =
      some ([], [(0#5, 0x44434241#32)], []) := by decide +kernel
theorem test_write_to_a_disabled_channel :
    refusalOf (exec (.write 1#5 []) upState) = some .channelNotEnabled ∧
      seen (exec (.write 1#5 [0x41#8]) upState) (fun t => (t.ch, t.seq)) = some (1#5, 0x10#5) ∧
      refusalOf (exec (.write 8#5 [0x41#8]) { upState with cfg := { Cfg.pRef with nChannels := 8 } }) = some .badChannel := by
  decide +kernel
/-- An operation that SEQ names runs whether or not a command has written its registers: BU04 writes the DIV of reset. -/
theorem test_bu04_without_a_bringup :
    seen (exec .bu04 openState) (fun t => (t.regs.fmtDiv, t.trace, t.seq)) =
      some (0x0#32, [⟨.wr, 0xE0040010#32, 0x0#32⟩], 0x05#5) := by decide +kernel

/-! ## Running a table word -/

theorem test_fetch_word_uop : seen (step (State.reset.withFetchWord 5 0x01)) (fun t => t.seq) = some 0x02#5 := by decide +kernel
theorem test_fetch_word_cmd : seen (step (State.reset.withFetchWord 2 0x1)) (fun t => t.owned) = some true := by decide +kernel
theorem test_fetch_word_drv : seen (step (State.reset.withFetchWord 1 0x0)) (fun t => t.dphase) = some 1#1 := by decide +kernel
theorem test_fetch_word_reserved : refusalOf (step (State.reset.withFetchWord 5 0x0F)) = some .badSeq := by decide +kernel

/-! ## Witnesses: states and operands that meet the hypotheses of the statements -/

/-- The invariant in a form `decide` can check. -/
theorem inv_of {s : State} (h1 : s.cfg.ok = true) (h2 : s.seq ∈ legalSeqs) (h3 : s.fault = true ↔ s.seq = Seq.halt)
    (h4 : s.fcode = if s.fault then ownershipTaken else 0#2) (h5 : s.seq ≠ Seq.idle → s.owned = true)
    (h6 : s.inBringup = true → s.divHeld = true)
    (h7 : s.divHeld = true → s.cfg.targetBaudHz < s.clk.toNat ∧ s.div = s.cfg.divisor s.clk)
    (h8 : s.inWriter = true → s.writeHeld = true ∧ s.idx < s.nwords)
    (h9 : s.ch.toNat < s.cfg.nChannels ∧ s.len = s.buf.length ∧ s.idx ≤ s.nwords)
    (h10 : s.seq = Seq.wrPush → s.ready s.ch = true)
    (h11 : ∀ ch : Chan, (s.fifoAt ch).length ≤ if ch.toNat < s.cfg.nChannels then s.cfg.fifoDepth else 0) : s.Inv :=
  ⟨h1, h2, h3, h4, h5, h6, h7, h8, h9, h10, h11⟩

theorem reset_inv : State.reset.Inv := by apply inv_of <;> decide +kernel
theorem up_inv : upState.Inv := by apply inv_of <;> decide +kernel
theorem write_inv : writeState.Inv := by apply inv_of <;> decide +kernel
theorem push_inv : pushState.Inv := by apply inv_of <;> decide +kernel
theorem full_inv : fullState.Inv := by apply inv_of <;> decide +kernel
theorem spin_inv : spinState.Inv := by apply inv_of <;> decide +kernel
theorem halt_inv : haltState.Inv := by apply inv_of <;> decide +kernel


theorem reset_flow : State.reset.FlowInv := by
  intro ch _
  simp [State.emittedOn, State.fifoAt, State.reset, State.launch, stimWrites]

theorem test_witness_CommandAndDriverCodesDecode :
    (bareCommand 0b00#2).cmd = 0b00#2 ∧ (bareCommand 0b01#2).cmd = 0b01#2 ∧ (bareCommand 0b10#2).cmd = 0b10#2 ∧
      (bareCommand 0b11#2).cmd = 0b11#2 := ⟨rfl, rfl, rfl, rfl⟩

theorem test_witness_EveryCodeHasOneMeaning :
    decodeUop 0x01#5 = .ok .bu01 ∧ decodeUop 0x11#5 = .ok .wrPush ∧ (bareCommand 0b10#2).cmd = 0b10#2 ∧
      (bareCommand 0b11#2).cmd = 0b11#2 := by decide

theorem test_witness_StepRunsTheMicroOperationSeqNames : ∃ (s u : State) (i : Instr),
    s.cfg.ok = true ∧ s.nextChoice = (.proceed, u) ∧ decodeUop s.seq = .ok i ∧ s.env ≠ [] :=
  ⟨{ pushState with env := [.proceed] }, _, .wrPush, test_cfg_p_ref_is_ok, rfl, rfl, by simp⟩

theorem test_witness_StepPresentsTheSourcesCommand :
    (∃ s u : State, s.cfg.ok = true ∧ s.nextChoice = (.proceed, u) ∧ s.seq = 0x00#5 ∧ s.fault = false ∧ s.source = .driver) ∧
    (∃ s u : State, s.cfg.ok = true ∧ s.nextChoice = (.proceed, u) ∧ s.seq = 0x00#5 ∧ s.fault = false ∧
      s.source = .host [bareCommand 0b01#2]) ∧
    (∃ s u : State, s.cfg.ok = true ∧ s.nextChoice = (.proceed, u) ∧ s.seq = 0x00#5 ∧ s.fault = false ∧ s.source = .host []) :=
  ⟨⟨State.reset, _, test_cfg_p_ref_is_ok, rfl, rfl, rfl, rfl⟩,
    ⟨{ State.reset with source := .host [bareCommand 0b01#2] }, _, test_cfg_p_ref_is_ok, rfl, rfl, rfl, rfl⟩,
    ⟨{ State.reset with source := .host [] }, _, test_cfg_p_ref_is_ok, rfl, rfl, rfl, rfl⟩⟩

theorem test_witness_NeitherControllerNorDriverMovesFromHalt :
    ∃ s : State, s.cfg.ok = true ∧ s.seq = 0x1F#5 ∧ s.nextChoice.1 = .proceed :=
  ⟨haltState, test_cfg_p_ref_is_ok, rfl, rfl⟩

/-- P_REF meets R9, and seven channels break it. -/
theorem test_witness_BadConfigurationIsRefused :
    Cfg.pRef.MeetsR9 ∧ (∃ s : State, ¬ s.cfg.MeetsR9) ∧ ∃ s : State, s.cfg.ok = false := by
  refine ⟨?_, ⟨{ State.reset with cfg := { Cfg.pRef with nChannels := 7 } }, fun h => absurd h.channels.1 (by decide)⟩,
    { State.reset with cfg := { Cfg.pRef with nChannels := 7 } }, test_cfg_seven_channels⟩
  refine ⟨by simp [Cfg.pRef], by decide, by decide, ?_, by decide, by decide, by decide, by decide, by decide, ?_, by decide⟩
  · intro a ha ch hc
    simp only [Cfg.pRef, List.mem_cons, List.not_mem_nil, or_false] at ha hc ⊢
    rcases ha with rfl | rfl | rfl | rfl | rfl | rfl | rfl | rfl | rfl | rfl | rfl | rfl | rfl <;> simp <;> omega
  intro m hm
  simp only [List.mem_cons, List.not_mem_nil, or_false] at hm
  rcases hm with rfl | rfl | rfl | rfl
  · exact ⟨24, by decide, by decide⟩
  · exact ⟨1, by decide, by decide⟩
  · exact ⟨0, by decide, by decide⟩
  · exact ⟨5, by decide, by decide⟩

theorem test_witness_ReservedSeqCodeIsRefused :
    (∃ s : State, s.cfg.ok = true ∧ s.seq = 0x0F#5 ∧ s.nextChoice.1 = .proceed) ∧
    (∃ s : State, s.cfg.ok = true ∧ (0x12 ≤ s.seq.toNat ∧ s.seq.toNat ≤ 0x1E) ∧ s.seq = 0x12#5 ∧ s.nextChoice.1 = .proceed) ∧
    (∃ s : State, s.cfg.ok = true ∧ (0x12 ≤ s.seq.toNat ∧ s.seq.toNat ≤ 0x1E) ∧ s.seq = 0x1E#5 ∧ s.nextChoice.1 = .proceed) :=
  ⟨⟨{ State.reset with seq := 0x0F#5 }, test_cfg_p_ref_is_ok, rfl, rfl⟩,
    ⟨{ State.reset with seq := 0x12#5 }, test_cfg_p_ref_is_ok, by decide, rfl, rfl⟩,
    ⟨{ State.reset with seq := 0x1E#5 }, test_cfg_p_ref_is_ok, by decide, rfl, rfl⟩⟩

/-- In the middle of a bring-up too. -/
theorem test_witness_ExternalResetGivesTheResetValues :
    ∃ s : State, s.cfg.ok = true ∧ s.nextChoice.1 = .reset ∧ s.seq = 0x05#5 :=
  ⟨{ upState with env := [.reset], seq := 0x05#5 }, test_cfg_p_ref_is_ok, rfl, rfl⟩

theorem test_witness_AcquireIsTakeOnce : State.reset.owned = false ∧ upState.owned = true := ⟨rfl, rfl⟩

theorem test_witness_BringupIsAcceptedAboveTheBaud :
    (upState.owned = true ∧ upState.cfg.targetBaudHz < (1000001#32).toNat) ∧ State.reset.owned = false ∧
      (upState.owned = true ∧ (1000000#32).toNat ≤ upState.cfg.targetBaudHz) := by decide +kernel

theorem test_witness_DivisorIsExact :
    (Cfg.pRef.ok = true ∧ Cfg.pRef.targetBaudHz < (1000001#32).toNat) ∧
      (Cfg.pRef.ok = true ∧ Cfg.pRef.targetBaudHz < (4294967295#32).toNat) ∧ Cfg.pRef.targetBaudHz = 1000000 := by
  decide +kernel

theorem test_witness_WriteIsAcceptedOnAnEnabledChannel :
    (upState.owned = true ∧ (0#5).toNat < upState.cfg.nChannels ∧ upState.channelEnabled 0#5 = true) ∧
      State.reset.owned = false ∧
      ∃ s : State, s.owned = true ∧ s.cfg.nChannels ≤ (8#5).toNat :=
  ⟨by decide +kernel, rfl, { upState with cfg := { Cfg.pRef with nChannels := 8 } }, rfl, by decide⟩

theorem test_witness_WriteToADisabledChannelNeverPushes :
    (upState.owned = true ∧ (31#5).toNat < upState.cfg.nChannels ∧ upState.channelEnabled 31#5 = false) ∧
      (spinState.Inv ∧ spinState.seq = 0x10#5 ∧ spinState.channelEnabled spinState.ch = false ∧
        spinState.nextChoice.1 = .proceed) ∧
      ∃ s : State, s.dphase = 0#1 ∧ s.owned = true ∧ 0 < s.cfg.nChannels ∧ s.channelEnabled 0#5 = false :=
  ⟨by decide +kernel, ⟨spin_inv, rfl, by decide +kernel, rfl⟩, { State.reset with owned := true }, rfl, rfl, by decide,
    by decide +kernel⟩

/-- One witness for the statements whose only hypothesis is a configuration that meets R9; the blocks' gates and locks stand
open in the first state and closed in the second. -/
theorem test_witness_configuration_ok :
    (openState.cfg.ok = true ∧ openState.gate = true ∧ openState.locks.fmt = false ∧ openState.locks.sync = false ∧
        openState.locks.itm = false) ∧
      (State.reset.cfg.ok = true ∧ State.reset.gate = false ∧ State.reset.locks.fmt = true) := by decide +kernel

theorem test_witness_DivisorRegisterTakesDiv :
    upState.cfg.ok = true ∧ (upState.Inv ∧ upState.divHeld = true) :=
  ⟨test_cfg_p_ref_is_ok, up_inv, rfl⟩

/-- The divisor 0: the smallest admitted clock. -/
theorem test_witness_DivisorRegisterTakesDiv_smallest :
    ∃ s : State, s.Inv ∧ s.divHeld = true ∧ s.clk.toNat < 2 * s.cfg.targetBaudHz :=
  ⟨{ upState with clk := 1000001#32, div := 0#32 }, by apply inv_of <;> decide +kernel, rfl, by decide⟩

theorem test_witness_TraceIoEnableEndsTheBringup : State.reset.cfg.ok = true ∧ ∃ t, exec .bu13 State.reset = .next t :=
  ⟨test_cfg_p_ref_is_ok, exists_next (by decide +kernel)⟩

theorem test_witness_PollReadsOnceAndBranches :
    (writeState.cfg.ok = true ∧ writeState.ch.toNat < writeState.cfg.nChannels ∧
        writeState.ready writeState.ch = true) ∧
      (fullState.cfg.ok = true ∧ fullState.ch.toNat < fullState.cfg.nChannels ∧
        fullState.ready fullState.ch = false) := by decide +kernel

/-- The last channel of a configuration. -/
theorem test_witness_PushWritesTheNextWord :
    ∃ s : State, s.cfg.ok = true ∧ s.ch.toNat < s.cfg.nChannels ∧ s.ch = 31#5 :=
  ⟨{ pushState with ch := 31#5 }, test_cfg_p_ref_is_ok, by decide, rfl⟩

theorem test_witness_APushIsNeverLost : ∃ (s : State) (ds : List Chan) (rest : List EnvAction),
    s.Inv ∧ s.seq = 0x11#5 ∧ s.env = ds.map EnvAction.drain ++ .proceed :: rest :=
  ⟨{ pushState with env := [.drain 0#5, .drain 3#5, .proceed] }, [0#5, 3#5], [], by apply inv_of <;> decide +kernel, rfl, rfl⟩

/-- The last byte of a sequence and the first byte of its padding. -/
theorem test_witness_WordsAreLittleEndianAndZeroPadded :
    1 < wordCount [1#8, 2#8, 3#8, 4#8, 5#8].length ∧ 4 * 1 + 0 < [1#8, 2#8, 3#8, 4#8, 5#8].length ∧
      ¬ 4 * 1 + 1 < [1#8, 2#8, 3#8, 4#8, 5#8].length ∧ [1#8, 2#8, 3#8, 4#8, 5#8].length ≤ 4 * 2 := by decide

theorem test_witness_PollsUntilReadyThenPushesOnce : ∃ (s : State) (n : Nat) (rest : List EnvAction),
    s.Inv ∧ s.seq = 0x10#5 ∧ s.channelEnabled s.ch = true ∧ (s.fifoAt s.ch).length = s.cfg.fifoDepth ∧
      s.env = List.replicate n EnvAction.proceed ++ [.drain s.ch, .proceed, .proceed] ++ rest :=
  ⟨{ fullState with env := [.proceed, .proceed, .drain 0#5, .proceed, .proceed, .drain 0#5] }, 2, [.drain 0#5],
    by apply inv_of <;> decide +kernel, rfl, by decide +kernel, by decide +kernel, rfl⟩

/-- A schedule with a not-ready poll, a drain between poll and push, and drains of another channel. -/
theorem test_witness_WriteCompletesWhenDrainedForEachWord :
    ∃ (s : State) (es : List EnvAction), s.Inv ∧ s.seq = 0x10#5 ∧ s.idx = 0 ∧ s.channelEnabled s.ch = true ∧
      EnvAction.reset ∉ es ∧ (fairRounds s.ch s.nwords).Sublist es ∧ es <+: s.env := by
  let es : List EnvAction := [.drain 0#5, .proceed, .drain 3#5, .proceed, .proceed, .proceed, .drain 0#5, .proceed, .drain 0#5,
    .proceed, .proceed]
  refine ⟨{ writeState with env := es ++ [.reset] }, es, by apply inv_of <;> decide +kernel, rfl, rfl, by decide +kernel,
    by decide, by decide, List.prefix_append _ _⟩

/-- A full FIFO, a not-ready poll before the drain, and a drain between poll and push. -/
theorem test_witness_AWordIsPushedOnceAFullFifoIsDrained :
    ∃ (s : State) (es : List EnvAction), s.Inv ∧ s.seq = 0x10#5 ∧ s.channelEnabled s.ch = true ∧ EnvAction.reset ∉ es ∧
      [EnvAction.proceed, .proceed].Sublist es ∧ (s.fifoAt s.ch).length = s.cfg.fifoDepth ∧
      ((s.fifoAt s.ch).length = s.cfg.fifoDepth → [EnvAction.drain s.ch, .proceed, .proceed].Sublist es) ∧ es <+: s.env := by
  let es : List EnvAction := [.proceed, .drain 3#5, .drain 0#5, .proceed, .drain 0#5, .proceed]
  refine ⟨{ fullState with env := es ++ [.reset] }, es, by apply inv_of <;> decide +kernel, rfl, by decide +kernel,
    by decide, by decide, by decide +kernel, fun _ => by decide, List.prefix_append _ _⟩

/-- An empty FIFO and no drain in the schedule. -/
theorem test_witness_AWordIsPushedOnceAFullFifoIsDrained_room :
    ∃ (s : State) (es : List EnvAction), s.Inv ∧ s.seq = 0x10#5 ∧ s.channelEnabled s.ch = true ∧ EnvAction.reset ∉ es ∧
      [EnvAction.proceed, .proceed].Sublist es ∧ (s.fifoAt s.ch).length ≠ s.cfg.fifoDepth ∧
      es.count (.drain s.ch) = 0 ∧ es <+: s.env :=
  ⟨{ writeState with env := [.proceed, .proceed] }, [.proceed, .proceed], by apply inv_of <;> decide +kernel, rfl,
    by decide +kernel, by decide, by decide, by decide +kernel, by decide, List.prefix_rfl⟩

theorem test_witness_WriteCompletesInDrainedRounds :
    ∃ (s : State) (rounds : List (List Chan)) (rest : List EnvAction), s.Inv ∧ s.seq = 0x10#5 ∧ s.idx = 0 ∧
      s.channelEnabled s.ch = true ∧ rounds.length = s.nwords ∧ s.env = drainFairRounds s.ch rounds ++ rest :=
  ⟨{ writeState with env := drainFairRounds 0#5 [[], [0#5, 3#5]] }, [[], [0#5, 3#5]], [],
    by apply inv_of <;> decide +kernel, rfl, rfl, by decide +kernel, by decide, rfl⟩

theorem test_witness_WriterTouchesOnlyItsPort :
    (∃ s t : State, exec .wrPoll s = .next t ∧ s.cfg.ok = true ∧ s.ch.toNat < s.cfg.nChannels) ∧
      (∃ s t : State, exec .wrPush s = .next t ∧ s.cfg.ok = true ∧ s.ch.toNat < s.cfg.nChannels) :=
  ⟨⟨writeState, _, State.poll_eq writeState test_cfg_p_ref_is_ok (by decide), test_cfg_p_ref_is_ok, by decide⟩,
    ⟨pushState, _, State.push_eq pushState test_cfg_p_ref_is_ok (by decide), test_cfg_p_ref_is_ok, by decide⟩⟩

theorem test_witness_UnwrittenRegistersAreNotRead :
    (∃ s : State, s.Inv ∧ s.seq = 0x04#5) ∧ (writeState.Inv ∧ writeState.seq = 0x10#5) ∧
      (pushState.Inv ∧ pushState.seq = 0x11#5) ∧ Cfg.pRef.ok = true ∧
      ∃ t, core.run 1 { State.launch Cfg.pRef 8000000#32 TargetRegs.vectorInit with source := .driver, env := [.proceed] } = .next t :=
  ⟨⟨{ upState with seq := 0x04#5 }, by apply inv_of <;> decide +kernel, rfl⟩, ⟨write_inv, rfl⟩, ⟨push_inv, rfl⟩,
    test_cfg_p_ref_is_ok, exists_next (by decide +kernel)⟩

/-- The run of UnwrittenRegistersAreNotRead reaches BU04: the third own step after a grant and an accepted BRINGUP. -/
theorem test_witness_UnwrittenRegistersAreNotRead_bu04 :
    seen (core.run 5 { State.reset with env := List.replicate 5 .proceed }) (fun t => (t.seq, t.divHeld)) = some (0x04#5, true) := by
  decide +kernel

theorem test_witness_DriverInitAcquiresThenBringsUp :
    (State.reset.dphase = 0#1 ∧ State.reset.owned = false) ∧
      (∃ s : State, s.dphase = 1#1 ∧ s.owned = true ∧ s.cfg.targetBaudHz < s.clockHzIn.toNat) ∧
      (upState.dphase = 0#1 ∧ upState.owned = true) ∧
      (∃ s : State, s.dphase = 1#1 ∧ s.owned = true ∧ s.clockHzIn.toNat ≤ s.cfg.targetBaudHz) ∧
      (∃ s : State, s.dphase = 1#1 ∧ s.owned = false) :=
  ⟨⟨rfl, rfl⟩, ⟨{ upState with dphase := 1#1, clockHzIn := 1000001#32 }, rfl, rfl, by decide⟩, ⟨rfl, rfl⟩,
    ⟨{ upState with dphase := 1#1, clockHzIn := 1000000#32 }, rfl, rfl, by decide⟩,
    ⟨{ State.reset with dphase := 1#1 }, rfl, rfl⟩⟩

theorem test_witness_DriverRunWritesThenCounts :
    (upState.dphase = 0#1 ∧ upState.owned = true ∧ 0 < upState.cfg.nChannels ∧ upState.channelEnabled 0#5 = true) ∧
      (State.reset.dphase = 0#1 ∧ State.reset.owned = false) ∧ ∃ s : State, s.dphase = 1#1 ∧ s.cnt = 0xFF#8 :=
  ⟨by decide +kernel, ⟨rfl, rfl⟩, { upState with dphase := 1#1, cnt := 0xFF#8 }, rfl, rfl⟩

theorem test_witness_DriverIterationSendsThePayloadTwice : ∃ (s : State) (ds es : List Chan) (rest : List EnvAction),
    s.Inv ∧ s.source = .driver ∧ s.seq = 0x00#5 ∧ s.owned = true ∧ s.dstate = 1#1 ∧ s.dphase = 0#1 ∧
      s.channelEnabled 0#5 = true ∧ s.env = .proceed :: drainFairRounds 0#5 [ds, es] ++ .proceed :: rest :=
  ⟨{ upState with env := .proceed :: drainFairRounds 0#5 [[], [7#5]] ++ [.proceed] }, [], [7#5], [],
    by apply inv_of <;> decide +kernel, rfl, rfl, rfl, rfl, rfl, by decide +kernel, rfl⟩

theorem test_witness_RunStateIsNeverLeft : ∃ s t : State, s.dstate = 1#1 ∧ s.noResetNext ∧ step s = .next t :=
  let ⟨t, h⟩ := exists_next (o := step upState) (by decide +kernel)
  ⟨upState, t, rfl, no_reset_of rfl, h⟩

theorem test_witness_OnlyASecondAcquireRaisesTheFault :
    (∃ s t : State, step s = .next t ∧ s.fault = false ∧ t.fault = true ∧ s.source = .driver) ∧
      (∃ s t : State, step s = .next t ∧ s.fault = false ∧ t.fault = true ∧ s.source = .host [bareCommand 0b01#2]) :=
  let a : State := { State.reset with owned := true }
  let b : State := { a with source := .host [bareCommand 0b01#2] }
  let ⟨t, h, ht⟩ := exists_next_with (o := step a) (f := State.fault) (by decide +kernel)
  let ⟨u, k, hu⟩ := exists_next_with (o := step b) (f := State.fault) (by decide +kernel)
  ⟨⟨a, t, h, rfl, ht, rfl⟩, ⟨b, u, k, rfl, hu, rfl⟩⟩

theorem test_witness_FaultIsKeptUntilReset :
    ∃ s t : State, s.Inv ∧ s.fault = true ∧ s.noResetNext ∧ step s = .next t :=
  ⟨{ haltState with env := [.drain 0#5] }, _, by apply inv_of <;> decide +kernel, rfl, no_reset_of rfl,
    step_drain test_cfg_p_ref_is_ok rfl⟩

theorem test_witness_LockRegisterTakesOnlyTheKey :
    (openState.cfg.ok = true ∧ openState.gate = true ∧ openState.cfg.key = 0xC5ACCE55#32 ∧
        0xC5ACCE54#32 ≠ openState.cfg.key ∧ Block.sync ≠ Block.fmt) ∧
      (State.reset.cfg.ok = true ∧ State.reset.gate = false) := by decide +kernel

theorem test_witness_LockedOrGatedWritesAreIneffective :
    (StorageReg.fmtDiv.block = some .fmt ∧ openState.gate = true ∧ openState.locks.get .fmt = false) ∧
      (StorageReg.syncCtrl.block = some .sync ∧ State.reset.gate = false) ∧
      ∃ s : State, s.cfg.ok = true ∧ s.gate = true ∧ s.locks.get .itm = true :=
  ⟨by decide +kernel, by decide +kernel, { openState with locks := ⟨true, true, true⟩ }, test_cfg_p_ref_is_ok,
    by decide +kernel, rfl⟩

theorem test_witness_PortTakesAWordOnlyWhenReady :
    (upState.cfg.ok = true ∧ (0#5).toNat < upState.cfg.nChannels ∧ upState.ready 0#5 = true) ∧
      (upState.cfg.ok = true ∧ (31#5).toNat < upState.cfg.nChannels ∧ upState.ready 31#5 = false) := by decide +kernel

/-- The last port is on the map, the address after it is not. -/
theorem test_witness_UnmappedAddressesHaveNoMeaning :
    State.reset.cfg.ok = true ∧ (State.reset.memRead 0xE000007C#32).isNone = false ∧
      (State.reset.memRead 0xE0000080#32).isNone = true ∧ (State.reset.memWrite 0xE0042008#32 0#32).isNone = true := by
  decide +kernel

theorem test_witness_DrainTakesTheOldestWord :
    (∃ s u : State, s.cfg.ok = true ∧ s.nextChoice = (.drain 0#5, u) ∧ s.fifoAt 0#5 = [0x44434241#32]) ∧
      (∃ s u : State, s.cfg.ok = true ∧ s.nextChoice = (.drain 31#5, u) ∧ s.fifoAt 31#5 = []) :=
  ⟨⟨{ fullState with env := [.drain 0#5] }, _, test_cfg_p_ref_is_ok, rfl, by decide +kernel⟩,
    ⟨{ fullState with env := [.drain 31#5] }, _, test_cfg_p_ref_is_ok, rfl, by decide +kernel⟩⟩

theorem test_witness_InvariantIsKeptByEveryStep : ∃ s t : State, s.Inv ∧ step s = .next t :=
  let ⟨t, h⟩ := exists_next (o := step pushState) (by decide +kernel)
  ⟨pushState, t, push_inv, h⟩

theorem test_witness_InvariantsHoldAtLaunch : ∃ c : Cfg, c.ok = true := ⟨Cfg.pRef, test_cfg_p_ref_is_ok⟩

theorem test_witness_NoWordIsDroppedOrReordered :
    ∃ s t : State, s.Inv ∧ s.FlowInv ∧ s.noResetNext ∧ step s = .next t :=
  let ⟨t, h⟩ := exists_next (o := step State.reset) (by decide +kernel)
  ⟨State.reset, t, reset_inv, reset_flow, no_reset_of rfl, h⟩

/-- The push of the first word of P2: FlowInv holds before, and a word is on its way after. -/
theorem test_witness_NoWordIsDroppedOrReordered_push :
    pushState.Inv ∧ pushState.FlowInv ∧ pushState.noResetNext ∧ ∃ t, step pushState = .next t := by
  refine ⟨push_inv, ?_, no_reset_of rfl, exists_next (by decide +kernel)⟩
  intro ch _
  simp [State.emittedOn, State.fifoAt, pushState, writeState, upState, State.reset, State.launch, stimWrites]

theorem test_witness_OwnershipIsNeverReleased : ∃ s t : State, s.owned = true ∧ s.noResetNext ∧ step s = .next t :=
  let ⟨t, h⟩ := exists_next (o := step upState) (by decide +kernel)
  ⟨upState, t, rfl, no_reset_of rfl, h⟩

theorem test_witness_ConfigurationNeverChanges : ∃ s t : State, step s = .next t :=
  let ⟨t, h⟩ := exists_next (o := step upState) (by decide +kernel)
  ⟨upState, t, h⟩

theorem test_witness_GateAndLocksOnlyOpen :
    ∃ s t : State, s.Inv ∧ s.noResetNext ∧ step s = .next t ∧ s.traceEnabled = true ∧ s.gate = true ∧
      ∀ b : Block, s.locks.get b = false :=
  let ⟨t, h⟩ := exists_next (o := step pushState) (by decide +kernel)
  ⟨pushState, t, push_inv, no_reset_of rfl, h, by decide +kernel, by decide +kernel, fun b => by cases b <;> rfl⟩

theorem test_witness_EveryTransactionIsRecordedOnce :
    (∃ t, exec .bu01 State.reset = .next t) ∧ (∃ t, exec .wrPush pushState = .next t) ∧ (∃ t, exec .none pushState = .next t) :=
  ⟨exists_next (by decide +kernel), exists_next (by decide +kernel), exists_next (by decide +kernel)⟩

theorem test_witness_MicroOperationsLeaveControllerAndDriverAlone :
    (Instr.format .bu06 = .uop ∧ ∃ t, exec .bu06 State.reset = .next t) ∧ State.reset.cfg.ok = true ∧
      (Instr.format .wrPush = .uop ∧ pushState.cfg.ok = true ∧ pushState.ch.toNat < pushState.cfg.nChannels ∧
        ∃ t, exec .wrPush pushState = .next t) :=
  ⟨⟨rfl, exists_next (by decide +kernel)⟩, test_cfg_p_ref_is_ok, rfl, test_cfg_p_ref_is_ok, by decide,
    exists_next (by decide +kernel)⟩

theorem test_witness_PrivilegeRegisterIsNeverConsulted : pushState.Inv := push_inv

theorem test_witness_BringUpReachesItsFinalState : ∃ (s₀ s : State) (f : Word) (es : List EnvAction),
    s₀.cfg.ok = true ∧ exec (.bringup f) s₀ = .next s ∧ EnvAction.reset ∉ es ∧ es.count EnvAction.proceed = 14 ∧
      es <+: s.env := by
  refine ⟨{ State.reset with owned := true, env := .drain 2#5 :: List.replicate 14 .proceed ++ [.drain 0#5] }, _, 1000001#32,
    .drain 2#5 :: List.replicate 14 .proceed ++ [.drain 0#5], test_cfg_p_ref_is_ok, rfl, by decide, by decide, List.prefix_refl _⟩

theorem test_witness_BringUpIsIdempotent :
    upState.cfg.ok = true ∧ upState.owned = true ∧ upState.cfg.targetBaudHz < (8000000#32).toNat := by decide +kernel

theorem test_witness_OmittedUnlockMakesConfigurationIneffective :
    (State.reset.cfg.ok = true ∧ State.reset.locks.get .sync = true) ∧
      (State.reset.cfg.ok = true ∧ State.reset.cfg.traceEnGating = true ∧ State.reset.traceEnabled = false) ∧
      ∃ s : State, s.cfg.ok = true ∧ s.cfg.traceEnGating = false ∧ s.traceEnabled = false :=
  ⟨⟨test_cfg_p_ref_is_ok, rfl⟩, ⟨test_cfg_p_ref_is_ok, rfl, by decide⟩,
    { State.reset with cfg := { Cfg.pRef with traceEnGating := false } }, by decide +kernel, rfl, by decide⟩

end Sys2Proof.Machine
end

section
/-! PROOFS. The family on the state: what an operation of each class does, one rule per update for the machine's invariant,
the invariant at launch and along every run, and the statements on the fault, the ownership and the launch values. -/

namespace Sys2Proof

open Machine (BusReg bringUpOps)

/-- A register found on the bus is a register of the map: a port found there is a port of a channel below N_CHANNELS. -/
theorem Cfg.mapped_of_regAt {c : Cfg} (hc : c.ok = true) {a : Word} {r : BusReg} (h : c.regAt a = some r) :
    c.mapped r := by
  have hfixed : ∀ p ∈ c.fixedMap, c.mapped p.2 := by simp [Cfg.fixedMap, Cfg.mapped]
  simp only [Cfg.regAt] at h
  split at h
  · rename_i q hq
    obtain ⟨l₁, l₂, hl, -⟩ := List.lookup_eq_some_iff.mp hq
    cases h
    exact hfixed (a, r) (by simp [hl])
  · obtain ⟨ch, hch, rfl⟩ := Option.map_eq_some_iff.mp h
    simp only [Cfg.portAt] at hch
    split at hch
    · rename_i hport
      cases hch
      have hle := (Cfg.sizes_of_ok hc).2.2.2.1
      simp only [Cfg.mapped, BitVec.toNat_ofNat]
      omega
    · cases hch

/-- P_REF meets R9 (R10). -/
theorem Cfg.pRef_ok : Cfg.pRef.ok = true := by decide +kernel

/-- Every operation is a bring-up or a writer micro-operation, or of another format than UOP. -/
theorem Instr.class_cases (i : Instr) : i ∈ bringUpOps ∨ i = .wrPoll ∨ i = .wrPush ∨ i.format ≠ .uop := by
  cases i <;> simp [bringUpOps, Instr.format]

/-- A SEQ code that names an operation stands with it in the table. -/
theorem mem_uopTable_of_decodeUop {q : BitVec 5} {i : Instr} (h : decodeUop q = .ok i) : (q, i) ∈ uopTable := by
  simp only [decodeUop] at h
  split at h
  · cases h
  · split at h
    · cases h
    · split at h
      · rename_i j hj
        obtain ⟨l₁, l₂, hl, -⟩ := List.lookup_eq_some_iff.mp hj
        cases h
        simp [hl]
      · cases h

namespace Machine

/-! ## What the machine does next -/

/-- SEQ is at a bring-up operation, at the poll or at the push when it names an operation. -/
theorem decodeUop_cases {s : State} {i : Instr} (h : decodeUop s.seq = .ok i) :
    (s.inBringup = true ∧ i ∈ bringUpOps) ∨ (s.seq = Seq.wrPoll ∧ i = .wrPoll) ∨ (s.seq = Seq.wrPush ∧ i = .wrPush) := by
  have hrows : ∀ p ∈ uopTable, ((decide (1 ≤ p.1.toNat) && decide (p.1.toNat ≤ 14)) = true ∧ p.2 ∈ bringUpOps) ∨
      (p.1 = Seq.wrPoll ∧ p.2 = .wrPoll) ∨ (p.1 = Seq.wrPush ∧ p.2 = .wrPush) := by decide
  exact hrows _ (mem_uopTable_of_decodeUop h)

/-- The command source presents a command or a driver state, never a micro-operation (R121, R220). -/
theorem State.fetchCommand_format (s : State) : s.fetchCommand.1.format ≠ .uop := by
  have hdrv : ∀ d, (decodeDrv d).format ≠ .uop := by decide
  have hcmd : ∀ r, (decodeCmd r).format ≠ .uop := by
    intro r
    simp only [decodeCmd]
    repeat' split
    all_goals exact Format.noConfusion
  simp only [State.fetchCommand]
  split
  · exact hdrv _
  · exact Format.noConfusion
  · exact hcmd _

/-- A bring-up operation writes one register of the bus, or reads and writes one, and moves SEQ to a bring-up code or to
IDLE (R123). -/
theorem exec_bringup (s : State) {i : Instr} (hi : i ∈ bringUpOps) :
    ∃ (a : Word) (n : BitVec 5), n.toNat ≤ 14 ∧
      ((∃ v, exec i s = s.writeThen a v n) ∨ ∃ f, exec i s = s.modifyThen a f n) := by
  cases i
  case bu01 | bu06 | bu13 | bu14 => exact ⟨_, _, by decide, .inr ⟨_, rfl⟩⟩
  case bu02 | bu03 | bu04 | bu05 | bu07 | bu08 | bu09 | bu10 | bu11 | bu12 => exact ⟨_, _, by decide, .inl ⟨_, rfl⟩⟩
  all_goals simp [bringUpOps] at hi

/-- At a bring-up operation SEQ is none of IDLE, HALT and the push. -/
theorem State.seq_of_inBringup {s : State} (h : s.inBringup = true) :
    s.seq ≠ Seq.idle ∧ s.seq ≠ Seq.halt ∧ s.seq ≠ Seq.wrPush := by
  have hcodes : ∀ n : BitVec 5, (decide (1 ≤ n.toNat) && decide (n.toNat ≤ 14)) = true →
      n ≠ Seq.idle ∧ n ≠ Seq.halt ∧ n ≠ Seq.wrPush := by decide
  exact hcodes _ h

/-! ## The rules of the invariant: one per update of the state -/

/-- A state that differs at most in the fields the invariant does not read: the inputs, the environment, the counter of free
values, the lock flags, the driver's registers and the two records. -/
def State.SameCore (s t : State) : Prop :=
  t = { s with
    clockHzIn := t.clockHzIn, source := t.source, env := t.env, fresh := t.fresh, dstate := t.dstate, dphase := t.dphase,
    cnt := t.cnt, locks := t.locks, emit := t.emit, trace := t.trace }

theorem State.Inv.of_sameCore {s t : State} (h : s.Inv) (e : s.SameCore t) : t.Inv := by
  rw [e]
  exact { h with }

theorem State.sameCore_nextChoice (s : State) : s.SameCore s.nextChoice.2 := by
  simp only [State.nextChoice]
  split <;> rfl

theorem State.sameCore_fetchCommand (s : State) : s.SameCore s.fetchCommand.2 := by
  simp only [State.fetchCommand]
  split <;> rfl

theorem State.sameCore_targetRead (s : State) (r : BusReg) (t : BusTxn) : s.SameCore ((s.targetRead r).2.log t) := by
  cases r <;> rfl

/-- SEQ may move, once FAULT is 0 and the handle is taken, to a code whose registers have been written. -/
theorem State.Inv.setSeq {s : State} (h : s.Inv) {n : BitVec 5} (hn : n ∈ legalSeqs) (hhalt : n ≠ Seq.halt)
    (hf : s.fault = false) (ho : s.owned = true) (hb : (s.setSeq n).inBringup = true → s.divHeld = true)
    (hw : (s.setSeq n).inWriter = true → s.writeHeld = true ∧ s.idx < s.nwords)
    (hp : n = Seq.wrPush → s.ready s.ch = true) : (s.setSeq n).Inv :=
  { h with
    seqLegal := hn
    faultHalt := by simp [hf, hhalt]
    stoppedOrBusyOwned := fun _ => ho
    bringupHeld := hb
    writerHeld := hw
    pushReady := hp }

/-- The move to IDLE or to a bring-up code. -/
theorem State.Inv.setSeq_bringup {s : State} (h : s.Inv) {n : BitVec 5} (hn : n.toNat ≤ 14) (hf : s.fault = false)
    (ho : s.owned = true) (hb : n = Seq.idle ∨ s.divHeld = true) : (s.setSeq n).Inv := by
  have hcodes : ∀ n : BitVec 5, n.toNat ≤ 14 → n ∈ legalSeqs ∧ n ≠ Seq.halt ∧ n ≠ Seq.wrPoll ∧ n ≠ Seq.wrPush := by decide
  obtain ⟨hlegal, hhalt, hpoll, hpush⟩ := hcodes n hn
  refine h.setSeq hlegal hhalt hf ho (fun hin => ?_) (fun hin => ?_) fun e => absurd e hpush
  · refine hb.resolve_left ?_
    rintro rfl
    exact absurd hin Bool.false_ne_true
  · simp [State.inWriter, hpoll, hpush] at hin

/-- The move to the poll or the push, with a word left to push. -/
theorem State.Inv.setSeq_writer {s : State} (h : s.Inv) {n : BitVec 5} (hn : n = Seq.wrPoll ∨ n = Seq.wrPush)
    (hf : s.fault = false) (ho : s.owned = true) (hw : s.writeHeld = true ∧ s.idx < s.nwords)
    (hp : n = Seq.wrPush → s.ready s.ch = true) : (s.setSeq n).Inv := by
  have hcodes : ∀ n : BitVec 5, n = Seq.wrPoll ∨ n = Seq.wrPush →
      n ∈ legalSeqs ∧ n ≠ Seq.halt ∧ (decide (1 ≤ n.toNat) && decide (n.toNat ≤ 14)) = false := by decide
  obtain ⟨hlegal, hhalt, hnot⟩ := hcodes n hn
  exact h.setSeq hlegal hhalt hf ho (fun hin => absurd (hnot.symm.trans hin) Bool.false_ne_true) (fun _ => hw) hp

/-- The storage registers may change while no push waits for a ready port. -/
theorem State.Inv.setRegs {s : State} (h : s.Inv) (hs : s.seq ≠ Seq.wrPush) (r : TargetRegs) : (s.setRegs r).Inv :=
  { h with pushReady := fun e => absurd e hs }

/-- A queue may change within its bound, as long as a waiting push finds its port ready. -/
theorem State.Inv.setFifo {s : State} (h : s.Inv) {ch : Chan} {q : List Word}
    (hq : q.length ≤ if ch.toNat < s.cfg.nChannels then s.cfg.fifoDepth else 0)
    (hp : s.seq = Seq.wrPush → (s.setFifo ch q).ready s.ch = true) : (s.setFifo ch q).Inv :=
  { h with
    pushReady := hp
    fifoBound := fun c => by
      by_cases e : c = ch
      · subst e
        rw [State.fifoAt_setFifo_same]
        exact hq
      · rw [State.fifoAt_setFifo_ne _ _ _ _ e]
        exact h.fifoBound c }

/-- IDX may advance within NWORDS, and stays below it while the writer runs (R29, R200). -/
theorem State.Inv.setIdx {s : State} (h : s.Inv) {i : Nat} (hi : i ≤ s.nwords) (hw : s.inWriter = true → i < s.nwords) :
    (s.setIdx i).Inv :=
  { h with
    writerHeld := fun hin => ⟨(h.writerHeld hin).1, hw hin⟩
    writeSound := ⟨h.writeSound.1, h.writeSound.2.1, hi⟩ }

/-- CLK and DIV are latched together, from a clock above the baud (R152). -/
theorem State.Inv.latchClock {s : State} (h : s.Inv) {f : Word} (hf : s.cfg.targetBaudHz < f.toNat) :
    (s.latchClock f (s.cfg.divisor f)).Inv :=
  { h with
    bringupHeld := fun _ => rfl
    divSound := fun _ => ⟨hf, rfl⟩ }

/-- A WRITE latches its operands while SEQ is IDLE (R153). -/
theorem State.Inv.latchWrite {s : State} (h : s.Inv) (hs : s.seq = Seq.idle) {ch : Chan} (hch : ch.toNat < s.cfg.nChannels)
    (bytes : List Byte) : (s.latchWrite ch bytes).Inv :=
  { h with
    writerHeld := by simp [State.inWriter, hs]
    writeSound := ⟨hch, rfl, Nat.zero_le _⟩
    pushReady := by simp [hs] }

theorem State.Inv.grant {s : State} (h : s.Inv) : s.grant.Inv :=
  { h with stoppedOrBusyOwned := fun _ => rfl }

/-- The fault entry of a second ACQUIRE (R151, R232). -/
theorem State.Inv.raise {s : State} (h : s.Inv) (ho : s.owned = true) : (s.raise ownershipTaken).Inv :=
  { h with
    seqLegal := List.mem_cons_of_mem _ List.mem_cons_self
    faultHalt := ⟨fun _ => rfl, fun _ => rfl⟩
    faultCode := rfl
    stoppedOrBusyOwned := fun _ => ho
    bringupHeld := by simp [State.inBringup]
    writerHeld := by simp [State.inWriter]
    pushReady := by simp }

/-! ## The invariant under the shared operations -/

/-- FAULT is 0 outside HALT. -/
theorem State.Inv.fault_eq_false {s : State} (h : s.Inv) (hs : s.seq ≠ Seq.halt) : s.fault = false := by
  simpa using mt h.faultHalt.mp hs

/-- A ready port has room for one more word. -/
theorem State.length_append_of_ready {s : State} {ch : Chan} (h : s.ready ch = true) (v : Word) :
    (s.fifoAt ch ++ [v]).length ≤ s.cfg.fifoDepth := by
  simp only [State.ready, Bool.and_eq_true, decide_eq_true_eq] at h
  simpa using h.2

/-- The queue after a write to a channel's port stays within its bound (R88). -/
theorem State.Inv.fifo_after_port_write {s : State} (h : s.Inv) {ch : Chan} (hch : ch.toNat < s.cfg.nChannels) (v : Word) :
    (if s.ready ch then s.fifoAt ch ++ [v] else s.fifoAt ch).length ≤
      if ch.toNat < s.cfg.nChannels then s.cfg.fifoDepth else 0 := by
  cases hr : s.ready ch
  · exact h.fifoBound ch
  · rw [if_pos rfl, if_pos hch]
    exact State.length_append_of_ready hr v

/-- The target's reaction to a write, while no push waits. -/
theorem State.Inv.targetWrite {s : State} (h : s.Inv) (hs : s.seq ≠ Seq.wrPush) {r : BusReg} (hr : s.cfg.mapped r) (v : Word) :
    (s.targetWrite r v).Inv := by
  cases r with
  | storage r =>
    rw [State.targetWrite_storage]
    exact h.setRegs hs _
  | unlock b =>
    rw [State.targetWrite_unlock]
    exact h.of_sameCore rfl
  | port ch =>
    rw [State.targetWrite_port]
    exact h.setFifo (h.fifo_after_port_write hr v) fun e => absurd e hs

/-- The end of every bring-up operation: a write at a register of the map and the move of SEQ. -/
theorem State.Inv.targetWrite_setSeq {s : State} (h : s.Inv) (hb : s.inBringup = true) {r : BusReg} (hr : s.cfg.mapped r)
    (v : Word) {n : BitVec 5} (hn : n.toNat ≤ 14) : ((s.targetWrite r v).setSeq n).Inv := by
  obtain ⟨hidle, hhalt, hpush⟩ := State.seq_of_inBringup hb
  refine (h.targetWrite hpush hr v).setSeq_bringup hn ?_ ?_ (.inr ?_)
  · simpa using h.fault_eq_false hhalt
  · simpa using h.stoppedOrBusyOwned hidle
  · simpa using h.bringupHeld hb

/-- A bring-up operation keeps the invariant. -/
theorem State.Inv.exec_bringup {s t : State} {i : Instr} (h : s.Inv) (hb : s.inBringup = true) (hi : i ∈ bringUpOps)
    (ht : exec i s = .next t) : t.Inv := by
  obtain ⟨a, n, hn, ⟨v, e⟩ | ⟨f, e⟩⟩ := Machine.exec_bringup s hi
  · obtain ⟨r, hr, rfl⟩ := State.writeThen_next (e.symm.trans ht)
    have hlog : (s.log ⟨.wr, a, v⟩).Inv := h.of_sameCore rfl
    exact hlog.targetWrite_setSeq hb (Cfg.mapped_of_regAt h.cfgOk hr) v hn
  · obtain ⟨r, hr, rfl⟩ := State.modifyThen_next (e.symm.trans ht)
    have hread := h.of_sameCore (s.sameCore_targetRead r ⟨.rd, a, (s.targetRead r).1⟩)
    have hlog := hread.of_sameCore (t := State.log _ ⟨.wr, a, f (s.targetRead r).1⟩) rfl
    refine hlog.targetWrite_setSeq ?_ ?_ _ hn
    · simpa [State.inBringup] using hb
    · simpa using Cfg.mapped_of_regAt h.cfgOk hr

/-- POLL keeps the invariant: it moves to the push only when it has found the port ready (R201, R204). -/
theorem State.Inv.poll {s t : State} (h : s.Inv) (hs : s.seq = Seq.wrPoll) (ht : s.poll = .next t) : t.Inv := by
  have hw := h.writerHeld (by simp [State.inWriter, hs])
  have hf := h.fault_eq_false (by simp [hs])
  have ho := h.stoppedOrBusyOwned (by simp [hs])
  rw [State.poll_eq s h.cfgOk h.writeSound.1] at ht
  cases ht
  cases hr : s.ready s.ch
  · exact (h.setSeq_writer (.inl rfl) hf ho hw (by simp)).of_sameCore rfl
  · exact (h.setSeq_writer (.inr rfl) hf ho hw fun _ => hr).of_sameCore rfl

/-- PUSH keeps the invariant: the word enters the queue of a ready port, and IDX advances towards NWORDS. SEQ is moved first in
the proof, since a push no longer waits for a ready port once its word is in. -/
theorem State.Inv.push {s t : State} (h : s.Inv) (hs : s.seq = Seq.wrPush) (ht : s.push = .next t) : t.Inv := by
  obtain ⟨hch, -, -⟩ := h.writeSound
  have hw := h.writerHeld (by simp [State.inWriter, hs])
  have hf := h.fault_eq_false (by simp [hs])
  have ho := h.stoppedOrBusyOwned (by simp [hs])
  rw [State.push_eq s h.cfgOk hch, State.targetWrite_port] at ht
  cases ht
  have hq := h.fifo_after_port_write hch (wordAt s.buf s.len s.idx)
  by_cases hlast : s.idx + 1 = s.nwords
  · rw [if_pos hlast]
    have hseq : (s.setSeq Seq.idle).Inv := h.setSeq_bringup (by decide) hf ho (.inl rfl)
    have hfifo := hseq.setFifo hq (by simp)
    exact (hfifo.setIdx (i := s.idx + 1) hlast.le (by simp [State.inWriter])).of_sameCore rfl
  · rw [if_neg hlast]
    have hseq : (s.setSeq Seq.wrPoll).Inv := h.setSeq_writer (.inl rfl) hf ho hw (by simp)
    have hfifo := hseq.setFifo hq (by simp)
    have hlt : s.idx + 1 < s.nwords := by omega
    exact (hfifo.setIdx (i := s.idx + 1) hlt.le fun _ => hlt).of_sameCore rfl

/-! ## The invariant under the commands -/

/-- ACQUIRE keeps the invariant. -/
theorem State.Inv.acquire {s t : State} (h : s.Inv) (ht : s.acquire = .next t) : t.Inv := by
  rw [State.acquire_eq] at ht
  split at ht
  · cases ht
    exact h.raise ‹_›
  · cases ht
    exact h.grant

/-- The acceptance of a BRINGUP keeps the invariant. -/
theorem State.Inv.acceptBringup {s t : State} {f : Word} (h : s.Inv) (hf : s.fault = false) (ht : s.acceptBringup f = .next t) :
    t.Inv := by
  obtain ⟨ho, hclk, rfl⟩ := State.acceptBringup_next ht
  exact (h.latchClock hclk).setSeq_bringup (by decide) hf ho (.inr rfl)

/-- The acceptance of a WRITE keeps the invariant: with no word to push it is complete, otherwise IDX is below NWORDS. -/
theorem State.Inv.acceptWrite {s t : State} {ch : Chan} {bytes : List Byte} (h : s.Inv) (hs : s.seq = Seq.idle)
    (ht : s.acceptWrite ch bytes = .next t) : t.Inv := by
  have hf := h.fault_eq_false (by simp [hs])
  obtain ⟨ho, hch, ⟨-, rfl⟩ | ⟨hwords, rfl⟩⟩ := State.acceptWrite_next ht
  · exact (h.latchWrite hs hch bytes).setSeq_bringup (by decide) hf ho (.inl rfl)
  · exact (h.latchWrite hs hch bytes).setSeq_writer (.inl rfl) hf ho ⟨rfl, Nat.pos_of_ne_zero hwords⟩ (by simp)

/-- DRV_INIT keeps the invariant: ACQUIRE or BRINGUP, and the driver's own registers. -/
theorem State.Inv.execDrvInit {s t : State} (h : s.Inv) (hf : s.fault = false) (ht : execDrvInit s = .next t) : t.Inv := by
  simp only [Machine.execDrvInit] at ht
  split at ht
  · split at ht
    · exact h.acquire ht
    · obtain ⟨u, hu, rfl⟩ := onNext_next ht
      exact (h.acquire hu).of_sameCore rfl
  · obtain ⟨u, hu, rfl⟩ := onNext_next ht
    exact (h.acceptBringup hf hu).of_sameCore rfl

/-- DRV_RUN keeps the invariant: WRITE, or the driver's own registers alone. -/
theorem State.Inv.execDrvRun {s t : State} (h : s.Inv) (hs : s.seq = Seq.idle) (ht : execDrvRun s = .next t) : t.Inv := by
  simp only [Machine.execDrvRun] at ht
  split at ht
  · obtain ⟨u, hu, rfl⟩ := onNext_next ht
    exact (h.acceptWrite hs hu).of_sameCore rfl
  · cases ht
    exact h.of_sameCore rfl

/-- Every command and driver state keeps the invariant. -/
theorem State.Inv.exec_command {s t : State} {i : Instr} (h : s.Inv) (hs : s.seq = Seq.idle) (hi : i.format ≠ .uop)
    (ht : exec i s = .next t) : t.Inv := by
  have hf := h.fault_eq_false (by simp [hs])
  cases i
  case none => cases ht; exact h
  case acquire => exact h.acquire ht
  case bringup => exact h.acceptBringup hf ht
  case write => exact h.acceptWrite hs ht
  case drvInit => exact h.execDrvInit hf ht
  case drvRun => exact h.execDrvRun hs ht
  all_goals exact absurd rfl hi

/-! ## The invariant along steps and runs -/

/-- The machine's own step keeps the invariant. -/
theorem State.Inv.proceed {s t : State} (h : s.Inv) (ht : proceed s = .next t) : t.Inv := by
  obtain ⟨ha, he⟩ | ⟨-, i, hi, he⟩ := proceed_next ht
  · have hs : s.seq = Seq.idle := by
      simp only [State.accepting, Bool.and_eq_true, beq_iff_eq] at ha
      exact ha.1
    exact (h.of_sameCore s.sameCore_fetchCommand).exec_command (by simpa using hs) s.fetchCommand_format he
  · obtain ⟨hb, hop⟩ | ⟨hs, rfl⟩ | ⟨hs, rfl⟩ := decodeUop_cases hi
    · exact h.exec_bringup hb hop he
    · exact h.poll hs he
    · exact h.push hs he

/-- The drain keeps the invariant: a queue gets shorter, so a ready port stays ready. -/
theorem State.Inv.drain {s : State} (h : s.Inv) (ch : Chan) : (s.drain ch).Inv := by
  obtain ⟨-, e⟩ | ⟨w, q, hq, e⟩ := s.drain_cases ch
  · rw [e]
    exact h
  · rw [e]
    have hb := h.fifoBound ch
    rw [hq, List.length_cons] at hb
    refine (h.setFifo (Nat.le_of_succ_le hb) fun hs => ?_).of_sameCore (t := (s.setFifo ch q).addEmit ch w) rfl
    have hr := h.pushReady hs
    by_cases hc : s.ch = ch
    · simp only [State.ready, Bool.and_eq_true, decide_eq_true_eq, hc, hq, List.length_cons, State.channelEnabled_setFifo,
        State.fifoAt_setFifo_same, State.setFifo_cfg] at hr ⊢
      exact ⟨hr.1, by omega⟩
    · simpa [State.ready, State.fifoAt_setFifo_ne _ _ _ _ hc] using hr

/-- Every launch state meets the invariant. -/
theorem State.launch_inv {c : Cfg} (hc : c.ok = true) (f : Word) (init : TargetRegs) : (State.launch c f init).Inv where
  cfgOk := hc
  seqLegal := List.mem_cons_self
  faultHalt := by simp [State.launch]
  faultCode := rfl
  stoppedOrBusyOwned := by simp [State.launch]
  bringupHeld := by simp [State.launch, State.inBringup]
  divSound := by simp [State.launch]
  writerHeld := by simp [State.launch, State.inWriter]
  writeSound := ⟨by have := Cfg.sizes_of_ok hc; simp [State.launch]; omega, rfl, Nat.zero_le _⟩
  pushReady := by simp [State.launch]
  fifoBound := by simp [State.launch, State.fifoAt]

/-- The queues a reset leaves are within their bounds. -/
theorem relaunchFifo_bound (c : Cfg) (fifo : Vector (List Word) 32) (ch : Chan) :
    ((relaunchFifo c fifo)[ch.toNat]'ch.isLt).length ≤ if ch.toNat < c.nChannels then c.fifoDepth else 0 := by
  simp only [relaunchFifo, Vector.getElem_ofFn]
  split
  · exact List.length_take_le _ _
  · exact le_rfl

/-- The external reset establishes the invariant. -/
theorem State.Inv.externalReset {s : State} (h : s.Inv) : s.externalReset.Inv :=
  { State.launch_inv h.cfgOk s.clockHzIn (Config.relaunch s.fresh).regs with
    pushReady := by simp [State.externalReset, State.launch]
    fifoBound := relaunchFifo_bound s.cfg _ }

/-- Every step keeps the invariant, whoever moves. -/
theorem State.Inv.step {s t : State} (h : s.Inv) (ht : step s = .next t) : t.Inv := by
  have hu : s.nextChoice.2.Inv := h.of_sameCore s.sameCore_nextChoice
  obtain ⟨-, ⟨-, hp⟩ | ⟨ch, -, rfl⟩ | ⟨-, rfl⟩⟩ := step_next ht
  · exact hu.proceed hp
  · exact hu.drain ch
  · exact hu.externalReset

/-- What every step keeps, every run keeps. -/
theorem run_keeps {P : State → Prop} (hstep : ∀ s t, P s → step s = .next t → P t) :
    ∀ (n : Nat) (s t : State), P s → core.run n s = .next t → P t
  | 0, s, t, hs, h => by
    cases h
    exact hs
  | n + 1, s, t, hs, h => by
    simp only [Host.Core.run] at h
    split at h
    · exact run_keeps hstep n _ t (hstep s _ hs ‹_›) h
    · cases h
    · cases h

/-! ## Ownership -/

/-- ACQUIRE never releases the handle: a second one faults and leaves it taken (R151). -/
theorem State.acquire_keeps_owned {s t : State} (ho : s.owned = true) (ht : s.acquire = .next t) : t.owned = true := by
  rw [State.acquire_eq, if_pos ho] at ht
  cases ht
  exact ho

theorem State.acceptBringup_keeps_owned {s t : State} {f : Word} (ht : s.acceptBringup f = .next t) : t.owned = true := by
  obtain ⟨ho, -, rfl⟩ := State.acceptBringup_next ht
  exact ho

theorem State.acceptWrite_keeps_owned {s t : State} {ch : Chan} {bytes : List Byte} (ht : s.acceptWrite ch bytes = .next t) :
    t.owned = true := by
  obtain ⟨ho, -, ⟨-, rfl⟩ | ⟨-, rfl⟩⟩ := State.acceptWrite_next ht <;> exact ho

theorem execDrvInit_keeps_owned {s t : State} (ho : s.owned = true) (ht : execDrvInit s = .next t) : t.owned = true := by
  simp only [execDrvInit, ho, if_true] at ht
  split at ht
  · exact State.acquire_keeps_owned ho ht
  · obtain ⟨u, hu, rfl⟩ := onNext_next ht
    rw [State.setDriver_owned]
    exact State.acceptBringup_keeps_owned hu

theorem execDrvRun_keeps_owned {s t : State} (ho : s.owned = true) (ht : execDrvRun s = .next t) : t.owned = true := by
  simp only [execDrvRun] at ht
  split at ht
  · obtain ⟨u, hu, rfl⟩ := onNext_next ht
    rw [State.setDriver_owned]
    exact State.acceptWrite_keeps_owned hu
  · cases ht
    exact ho

/-- Micro-operations leave OWNED alone (R123). -/
theorem exec_bringup_owned {s t : State} {i : Instr} (hi : i ∈ bringUpOps) (ht : exec i s = .next t) : t.owned = s.owned := by
  obtain ⟨a, n, -, ⟨v, e⟩ | ⟨f, e⟩⟩ := exec_bringup s hi
  · obtain ⟨r, -, rfl⟩ := State.writeThen_next (e.symm.trans ht)
    simp
  · obtain ⟨r, -, rfl⟩ := State.modifyThen_next (e.symm.trans ht)
    simp

/-- No operation releases the handle (R21). -/
theorem exec_keeps_owned {s t : State} {i : Instr} (ho : s.owned = true) (ht : exec i s = .next t) : t.owned = true := by
  obtain hi | rfl | rfl | hi := i.class_cases
  · exact (exec_bringup_owned hi ht).trans ho
  · obtain ⟨r, n, -, rfl⟩ := State.poll_next ht
    simpa using ho
  · obtain ⟨r, n, -, rfl⟩ := State.push_next ht
    simpa using ho
  · cases i
    case none => cases ht; exact ho
    case acquire => exact State.acquire_keeps_owned ho ht
    case bringup => exact State.acceptBringup_keeps_owned ht
    case write => exact State.acceptWrite_keeps_owned ht
    case drvInit => exact execDrvInit_keeps_owned ho ht
    case drvRun => exact execDrvRun_keeps_owned ho ht
    all_goals exact absurd rfl hi

/-! ## The registers a command writes before they are read, and the flow at launch -/

/-- At BU04 a BRINGUP, at the poll and the push a WRITE has written the registers the operation reads (R30). -/
theorem State.Inv.operands_held {s : State} (h : s.Inv) :
    (s.seq = 0x04#5 → s.divHeld = true) ∧ (s.seq = 0x10#5 ∨ s.seq = 0x11#5 → s.writeHeld = true) :=
  ⟨fun e => h.bringupHeld (by simp [State.inBringup, e]), fun e => (h.writerHeld (by simpa [State.inWriter] using e)).1⟩

/-- At launch nothing has been written to a port, queued or emitted. -/
theorem State.launch_flowInv (c : Cfg) (f : Word) (init : TargetRegs) : (State.launch c f init).FlowInv := by
  intro ch _
  simp [State.launch, State.emittedOn, State.fifoAt, stimWrites]

end Machine

open Machine

/-! ## The obligations -/

/-- Settles O47: one rule of the invariant per update of the state, then per operation, then per agent that moves. -/
theorem invariantIsKeptByEveryStep : Obligations.InvariantIsKeptByEveryStep :=
  fun _ _ h ht => h.step ht

/-- Settles O34: the invariant says it, holds at launch whatever the source and the schedule, and is kept along a run. -/
theorem unwrittenRegistersAreNotRead : Obligations.UnwrittenRegistersAreNotRead := by
  refine ⟨fun s h => h.operands_held, fun c f init src es n t hc ht => ?_⟩
  have hstart : ({ State.launch c f init with source := src, env := es } : State).Inv :=
    (State.launch_inv hc f init).of_sameCore rfl
  exact (run_keeps (fun _ _ h he => h.step he) n _ t hstart ht).operands_held

/-- Settles O40: with FAULT 1 the invariant puts SEQ at HALT, where the machine has no step, so only the drain moves. -/
theorem faultIsKeptUntilReset : Obligations.FaultIsKeptUntilReset := by
  intro s t h hf hr ht
  have hs : s.seq = Seq.halt := h.faultHalt.mp hf
  obtain ⟨-, ⟨-, hp⟩ | ⟨ch, -, rfl⟩ | ⟨hreset, -⟩⟩ := step_next ht
  · rw [proceed, State.fetch_of_halt (by simpa using hs)] at hp
    cases hp
  · simp [hf, hs]
  · exact absurd hreset hr

/-- Settles O50: no operation releases the handle, and the drain does not touch it. -/
theorem ownershipIsNeverReleased : Obligations.OwnershipIsNeverReleased := by
  intro s t ho hr ht
  obtain ⟨-, ⟨-, hp⟩ | ⟨ch, -, rfl⟩ | ⟨hreset, -⟩⟩ := step_next ht
  · obtain ⟨-, he⟩ | ⟨-, i, -, he⟩ := proceed_next hp
    · exact exec_keeps_owned (by simpa using ho) he
    · exact exec_keeps_owned (by simpa using ho) he
  · simpa using ho
  · exact absurd hreset hr

/-- Settles O11: the fields of the launch state are the table's, and State.reset is a launch state. -/
theorem launchStateHasTheResetValues : Obligations.LaunchStateHasTheResetValues := by
  refine ⟨fun c f init => ?_, Cfg.pRef, 8000000#32, TargetRegs.vectorInit, rfl⟩
  simp [State.launch, State.fifoAt]

/-- Settles O48: both invariants hold at every launch state, and State.reset is the one at P_REF. -/
theorem invariantsHoldAtLaunch : Obligations.InvariantsHoldAtLaunch :=
  ⟨fun c f init hc => ⟨State.launch_inv hc f init, State.launch_flowInv c f init⟩, Cfg.pRef_ok,
    State.launch_inv Cfg.pRef_ok _ _, State.launch_flowInv _ _ _⟩

end Sys2Proof
end

section
/-! PROOFS. The family on memory, first part: the constraints R9 and the address map, the reaction of the bus to one access,
and what an operation adds to TRACE and leaves unchanged. -/

namespace Sys2Proof

open Machine (BusReg BusTxn)

/-! ## The constraints R9, part by part -/

/-- No port stands at an address exactly when it is no stimulus address of a channel below N_CHANNELS. -/
theorem Cfg.portAt_eq_none_iff (c : Cfg) (a : Word) :
    c.portAt a = none ↔ ∀ ch < c.nChannels, a.toNat ≠ c.aStimBase.toNat + 4 * ch := by
  simp only [Cfg.portAt, ite_eq_right_iff, reduceCtorEq, imp_false]
  constructor
  · intro hno ch hch e
    exact hno (by omega)
  · rintro hno ⟨hle, hmod, hlt⟩
    exact hno _ hlt (by omega)

/-- R9 (a), as the test makes it and as the rule says it. -/
theorem Cfg.addrsAligned_iff (c : Cfg) : c.addrsAligned = true ↔
    (∀ a ∈ c.fixedAddrs ++ [c.aStimBase], a.toNat % 4 = 0) ∧ c.aStimBase.toNat + 4 * (c.nChannels - 1) < 2 ^ 32 := by
  simp [Cfg.addrsAligned, or_imp, forall_and, and_comm]

/-- R9 (b). -/
theorem Cfg.addrsDistinct_iff (c : Cfg) : c.addrsDistinct = true ↔
    c.fixedAddrs.Nodup ∧ ∀ a ∈ c.fixedAddrs, ∀ ch < c.nChannels, a.toNat ≠ c.aStimBase.toNat + 4 * ch := by
  simp only [Cfg.addrsDistinct, Bool.and_eq_true, decide_eq_true_eq, List.all_eq_true, Option.isNone_iff_eq_none,
    Cfg.portAt_eq_none_iff]

/-- R9 (c) to (e). -/
theorem Cfg.sizesOk_iff (c : Cfg) : c.sizesOk = true ↔
    (1 ≤ c.targetBaudHz ∧ c.targetBaudHz < 2 ^ 32) ∧ (8 ≤ c.nChannels ∧ c.nChannels ≤ 32) ∧ 1 ≤ c.fifoDepth := by
  simp only [Cfg.sizesOk, Bool.and_eq_true, decide_eq_true_eq, and_assoc]

/-- One mask has no bit outside another (R9 (f)). -/
theorem and_eq_left_iff_and_not_eq_zero (m k : Word) : m &&& k = m ↔ m &&& ~~~k = 0#32 := by
  simp only [BitVec.eq_of_getLsbD_eq_iff, BitVec.getLsbD_and, BitVec.getLsbD_not, BitVec.getLsbD_zero]
  refine forall₂_congr fun i hi => ?_
  cases m.getLsbD i <;> cases k.getLsbD i <;> simp [hi]

/-- The test for exactly one bit finds the powers of two (R9 (g)). -/
theorem oneBitSet_iff (m : Word) : oneBitSet m = true ↔ ∃ k < 32, m = BitVec.twoPow 32 k := by
  have hpow : oneBitSet m = true ↔ m.toNat.isPowerOfTwo := by
    rw [← Nat.ne_zero_and_sub_one_eq_zero_iff_isPowerOfTwo]
    simp only [oneBitSet, Bool.and_eq_true, bne_iff_ne, beq_iff_eq, BitVec.toNat_eq, ne_eq, BitVec.toNat_and]
    refine and_congr_right fun hm => ?_
    have hone : (1 : Word) ≤ m := BitVec.le_def.mpr (Nat.pos_of_ne_zero hm)
    rw [BitVec.toNat_sub_of_le hone]
    rfl
  rw [hpow]
  constructor
  · rintro ⟨k, hk⟩
    have hlt : k < 32 := (Nat.pow_lt_pow_iff_right (by decide)).mp (hk ▸ m.isLt)
    exact ⟨k, hlt, BitVec.eq_of_toNat_eq (by rw [hk, BitVec.toNat_twoPow_of_lt hlt])⟩
  · rintro ⟨k, hlt, rfl⟩
    exact ⟨k, BitVec.toNat_twoPow_of_lt hlt⟩

/-- R9 (f) to (h). -/
theorem Cfg.masksOk_iff (c : Cfg) : c.masksOk = true ↔
    c.dbgctlModeMask &&& ~~~c.dbgctlClearMask = 0#32 ∧ c.dbgctlIoenMask &&& c.dbgctlModeMask = 0#32 ∧
      (∀ m ∈ [c.dbgenTraceMask, c.fmtContMask, c.stimReadyMask, c.dbgctlIoenMask], ∃ k < 32, m = BitVec.twoPow 32 k) ∧
      c.itmEnInstr ≠ 0#32 := by
  simp [Cfg.masksOk, and_eq_left_iff_and_not_eq_zero, oneBitSet_iff, and_assoc]

/-- The step's test is R9. -/
theorem Cfg.ok_iff_meetsR9 (c : Cfg) : c.ok = true ↔ c.MeetsR9 := by
  simp only [Cfg.ok, Bool.and_eq_true, Cfg.addrsAligned_iff, Cfg.addrsDistinct_iff, Cfg.sizesOk_iff, Cfg.masksOk_iff]
  constructor
  · rintro ⟨⟨⟨⟨haligned, hfit⟩, hdistinct, hports⟩, hbaud, hchannels, hdepth⟩, hmode, hioen, hone, hinstr⟩
    exact ⟨haligned, hfit, hdistinct, hports, hbaud, hchannels, hdepth, hmode, hioen, hone, hinstr⟩
  · rintro ⟨haligned, hfit, hdistinct, hports, hbaud, hchannels, hdepth, hmode, hioen, hone, hinstr⟩
    exact ⟨⟨⟨⟨haligned, hfit⟩, hdistinct, hports⟩, hbaud, hchannels, hdepth⟩, hmode, hioen, hone, hinstr⟩

/-! ## What stands at an address -/

/-- Outside the thirteen addresses and the stimulus range nothing is mapped (R76, R91). -/
theorem Cfg.regAt_eq_none_iff {c : Cfg} (h : c.ok = true) (a : Word) :
    c.regAt a = none ↔ a ∉ c.fixedAddrs ∧ ∀ ch : Chan, ch.toNat < c.nChannels → a ≠ c.stimAddr ch := by
  constructor
  · intro hnone
    refine ⟨fun hfixed => ?_, ?_⟩
    · obtain ⟨⟨b, r⟩, hmem, rfl⟩ := List.mem_map.mp hfixed
      simp only [Cfg.regAt, lookup_of_mem (Cfg.distinct_of_ok h).1 hmem] at hnone
      cases hnone
    · rintro ch hch rfl
      have hport := Cfg.regAt_addrOf h (.port ch) hch
      rw [Cfg.addrOf, hnone] at hport
      cases hport
  · rintro ⟨hfixed, hstim⟩
    rw [Cfg.regAt, lookup_of_not_mem hfixed]
    suffices hport : c.portAt a = none by rw [hport]; rfl
    refine (c.portAt_eq_none_iff a).mpr fun ch hch e => ?_
    obtain ⟨-, -, -, hle, -⟩ := Cfg.sizes_of_ok h
    have hnat : (BitVec.ofNat 5 ch).toNat = ch := Nat.mod_eq_of_lt (by omega)
    have hch' : (BitVec.ofNat 5 ch).toNat < c.nChannels := hnat.symm ▸ hch
    refine hstim (.ofNat 5 ch) hch' (BitVec.eq_of_toNat_eq ?_)
    rw [e, Cfg.stimAddr_toNat h hch', hnat]

/-- A register found at one of the thirteen addresses is no port (R76). -/
theorem Cfg.regAt_fixed_ne_port {c : Cfg} (h : c.ok = true) {a : Word} (ha : a ∈ c.fixedAddrs) {r : BusReg}
    (hr : c.regAt a = some r) (ch : Chan) : r ≠ .port ch := by
  have hnone : ∀ p ∈ c.fixedMap, p.2 ≠ .port ch := by simp [Cfg.fixedMap]
  obtain ⟨⟨b, q⟩, hmem, rfl⟩ := List.mem_map.mp ha
  simp only [Cfg.regAt, lookup_of_mem (Cfg.distinct_of_ok h).1 hmem, Option.some.injEq] at hr
  exact hr ▸ hnone _ hmem

namespace Machine

/-- A bus access has no meaning exactly where nothing stands (R91). -/
theorem State.memRead_isNone_iff (s : State) (a : Word) : (s.memRead a).isNone ↔ s.cfg.regAt a = none := by
  cases h : s.cfg.regAt a <;> simp [State.memRead, h]

theorem State.memWrite_isNone_iff (s : State) (a v : Word) : (s.memWrite a v).isNone ↔ s.cfg.regAt a = none := by
  cases h : s.cfg.regAt a <;> simp [State.memWrite, h]

/-! ## What an operation adds to TRACE, and what it leaves unchanged -/

/-- WR-const and WR-reg record the one write (R124). -/
theorem State.writeThen_trace {s t : State} {a v : Word} {n : BitVec 5} (h : s.writeThen a v n = .next t) :
    t.trace = s.trace ++ [⟨.wr, a, v⟩] := by
  obtain ⟨r, -, rfl⟩ := State.writeThen_next h
  simp

/-- The RMW classes record a read and the write of a function of its datum (R124). -/
theorem State.modifyThen_trace {s t : State} {a : Word} {f : Word → Word} {n : BitVec 5}
    (h : s.modifyThen a f n = .next t) : ∃ new, t.trace = s.trace ++ new ∧ readModifyWrite a f new := by
  obtain ⟨r, -, rfl⟩ := State.modifyThen_next h
  exact ⟨_, by simp, (s.targetRead r).1, rfl⟩

/-- What no command and no driver state touches: the inputs, the target and the two records (R70). -/
structure State.SameTarget (s t : State) : Prop where
  cfg : t.cfg = s.cfg
  clockHzIn : t.clockHzIn = s.clockHzIn
  regs : t.regs = s.regs
  locks : t.locks = s.locks
  fifo : t.fifo = s.fifo
  emit : t.emit = s.emit
  trace : t.trace = s.trace

theorem State.sameTarget_nextChoice (s : State) : s.SameTarget s.nextChoice.2 := by
  constructor <;> simp

theorem State.sameTarget_fetchCommand (s : State) : s.SameTarget s.fetchCommand.2 := by
  constructor <;> simp

theorem State.SameTarget.trans {s t u : State} (h : s.SameTarget t) (k : t.SameTarget u) : s.SameTarget u :=
  ⟨k.cfg.trans h.cfg, k.clockHzIn.trans h.clockHzIn, k.regs.trans h.regs, k.locks.trans h.locks, k.fifo.trans h.fifo,
    k.emit.trans h.emit, k.trace.trans h.trace⟩

theorem State.acquire_sameTarget {s t : State} (ht : s.acquire = .next t) : s.SameTarget t := by
  rw [State.acquire_eq] at ht
  split at ht <;> cases ht <;> constructor <;> rfl

theorem State.acceptBringup_sameTarget {s t : State} {f : Word} (ht : s.acceptBringup f = .next t) : s.SameTarget t := by
  obtain ⟨-, -, rfl⟩ := State.acceptBringup_next ht
  constructor <;> rfl

theorem State.acceptWrite_sameTarget {s t : State} {ch : Chan} {bytes : List Byte} (ht : s.acceptWrite ch bytes = .next t) :
    s.SameTarget t := by
  obtain ⟨-, -, ⟨-, rfl⟩ | ⟨-, rfl⟩⟩ := State.acceptWrite_next ht <;> constructor <;> rfl

theorem execDrvInit_sameTarget {s t : State} (ht : execDrvInit s = .next t) : s.SameTarget t := by
  simp only [execDrvInit] at ht
  split at ht
  · split at ht
    · exact State.acquire_sameTarget ht
    · obtain ⟨u, hu, rfl⟩ := onNext_next ht
      exact (State.acquire_sameTarget hu).trans (by constructor <;> rfl)
  · obtain ⟨u, hu, rfl⟩ := onNext_next ht
    exact (State.acceptBringup_sameTarget hu).trans (by constructor <;> rfl)

theorem execDrvRun_sameTarget {s t : State} (ht : execDrvRun s = .next t) : s.SameTarget t := by
  simp only [execDrvRun] at ht
  split at ht
  · obtain ⟨u, hu, rfl⟩ := onNext_next ht
    exact (State.acceptWrite_sameTarget hu).trans (by constructor <;> rfl)
  · cases ht
    constructor <;> rfl

/-- Commands and driver states leave the target and the records alone (R70). -/
theorem exec_command_sameTarget {s t : State} {i : Instr} (hi : i.format ≠ .uop) (ht : exec i s = .next t) :
    s.SameTarget t := by
  cases i
  case none => cases ht; constructor <;> rfl
  case acquire => exact State.acquire_sameTarget ht
  case bringup => exact State.acceptBringup_sameTarget ht
  case write => exact State.acceptWrite_sameTarget ht
  case drvInit => exact execDrvInit_sameTarget ht
  case drvRun => exact execDrvRun_sameTarget ht
  all_goals exact absurd rfl hi

/-- A command or a driver state makes no bus transaction (R70). -/
theorem busRow_of_command {s t : State} {i : Instr} (hi : i.format ≠ .uop) (ht : exec i s = .next t) :
    ∃ new, t.trace = s.trace ++ new ∧ busRow s i new := by
  refine ⟨[], by simp [(exec_command_sameTarget hi ht).trace], ?_⟩
  cases i
  case none | acquire | bringup | write | drvInit | drvRun => rfl
  all_goals exact absurd rfl hi

/-- No operation changes the configuration or the clock input (R100, R31). -/
theorem exec_keeps_inputs {s t : State} {i : Instr} (ht : exec i s = .next t) :
    t.cfg = s.cfg ∧ t.clockHzIn = s.clockHzIn := by
  obtain hi | rfl | rfl | hi := i.class_cases
  · obtain ⟨a, n, -, ⟨v, e⟩ | ⟨f, e⟩⟩ := exec_bringup s hi
    · obtain ⟨r, -, rfl⟩ := State.writeThen_next (e.symm.trans ht)
      simp
    · obtain ⟨r, -, rfl⟩ := State.modifyThen_next (e.symm.trans ht)
      simp
  · obtain ⟨r, n, -, rfl⟩ := State.poll_next ht
    simp
  · obtain ⟨r, n, -, rfl⟩ := State.push_next ht
    simp
  · have hsame := exec_command_sameTarget hi ht
    exact ⟨hsame.cfg, hsame.clockHzIn⟩

/-- The machine's own step changes neither. -/
theorem proceed_keeps_inputs {s t : State} (ht : proceed s = .next t) : t.cfg = s.cfg ∧ t.clockHzIn = s.clockHzIn := by
  obtain ⟨-, he⟩ | ⟨-, i, -, he⟩ := proceed_next ht
  · simpa using exec_keeps_inputs he
  · exact exec_keeps_inputs he

end Machine

open Machine

/-! ## The obligations -/

/-- Settles O8: each part of the step's test is its part of R9. -/
theorem badConfigurationIsRefused : Obligations.BadConfigurationIsRefused := by
  have hrefused : ∀ s : State, s.cfg.ok = false → step s = .refused .badCfg := fun s h => by simp [step, h]
  exact ⟨Cfg.ok_iff_meetsR9, fun s h => hrefused s (Bool.eq_false_iff.mpr (mt s.cfg.ok_iff_meetsR9.mp h)), hrefused⟩

/-- Settles O41: the register stands at its address, and a read of it is answered without lock or gate. -/
theorem readsIgnoreLockAndGate : Obligations.ReadsIgnoreLockAndGate :=
  fun s r h => s.memRead_addrOf h (.storage r) trivial

/-- Settles O42: the write reaches the block's flag, and sets it by comparison with KEY when the gate is open. -/
theorem lockRegisterTakesOnlyTheKey : Obligations.LockRegisterTakesOnlyTheKey := by
  intro s b v h
  refine ⟨_, s.memWrite_addrOf h (.unlock b) trivial v, ?_⟩
  rw [State.targetWrite_unlock, State.gate_log]
  refine ⟨rfl, fun hg => ?_, fun c hc => ?_, fun hg => ?_⟩
  · simp [hg]
  · cases s.gate <;> simp [LockFlags.get_set_ne _ _ _ _ hc]
  · simp [hg]

/-- Settles O43: the write reaches the one register, exactly when that is writable. -/
theorem lockedOrGatedWritesAreIneffective : Obligations.LockedOrGatedWritesAreIneffective := by
  intro s r v h
  refine ⟨_, s.memWrite_addrOf h (.storage r) trivial v, ?_⟩
  rw [State.targetWrite_storage, State.storageWritable_log]
  refine ⟨rfl, ?_, fun b hb => ⟨fun hg hl => ?_, fun hno => ?_⟩, fun q hq => ?_⟩
  · rintro (rfl | rfl) <;> simp [State.storageWritable, StorageReg.block]
  · simp [State.storageWritable, hb, hg, hl]
  · have hlocked : s.storageWritable r = false := by
      obtain hg | hl := hno
      · simp [State.storageWritable, hb, hg]
      · simp [State.storageWritable, hb, hl]
    simp [hlocked]
  · cases s.storageWritable r <;> simp [TargetRegs.get_set_ne _ _ _ _ hq]

/-- Settles O44: the write reaches the channel's queue, exactly when the port is ready. -/
theorem portTakesAWordOnlyWhenReady : Obligations.PortTakesAWordOnlyWhenReady := by
  intro s ch v h hch
  refine ⟨_, s.memWrite_addrOf h (.port ch) hch v, ?_⟩
  rw [State.targetWrite_port, State.ready_log]
  refine ⟨rfl, fun hr => ?_, fun hr => ?_, fun c hc => ?_⟩
  · simp [hr]
  · simp [hr]
  · rw [State.fifoAt_setFifo_ne _ _ _ _ hc, State.fifoAt_log]

/-- Settles O45: an access has no meaning exactly where the map has nothing. -/
theorem unmappedAddressesHaveNoMeaning : Obligations.UnmappedAddressesHaveNoMeaning :=
  fun s a v h => ⟨(s.memRead_isNone_iff a).trans (Cfg.regAt_eq_none_iff h a),
    (s.memWrite_isNone_iff a v).trans (Cfg.regAt_eq_none_iff h a)⟩

/-- Settles O46: the step is the drain's, whose two cases are the statement's. -/
theorem drainTakesTheOldestWord : Obligations.DrainTakesTheOldestWord := by
  intro s u ch h hn
  have hu : u.fifoAt ch = s.fifoAt ch := State.fifoAt_congr (by simpa [hn] using s.nextChoice_fifo) ch
  rw [step_drain h hn, ← hu]
  refine ⟨fun w q hq => ?_, fun hq => ?_⟩
  · simp [State.drain, hq, State.setFifo, State.addEmit]
  · simp [State.drain, hq]

/-- Settles O51: no operation, no drain and no reset writes them. -/
theorem configurationNeverChanges : Obligations.ConfigurationNeverChanges := by
  intro s t ht
  obtain ⟨-, ⟨-, hp⟩ | ⟨ch, -, rfl⟩ | ⟨-, rfl⟩⟩ := step_next ht
  · simpa using proceed_keeps_inputs hp
  · simp
  · exact ⟨s.nextChoice_cfg, s.nextChoice_clockHzIn⟩

/-- Settles O53: a command records nothing, a bring-up operation what its class records, the writer its one access. -/
theorem everyTransactionIsRecordedOnce : Obligations.EveryTransactionIsRecordedOnce := by
  intro i s t ht
  cases i
  case none | acquire | bringup | write | drvInit | drvRun => exact busRow_of_command Format.noConfusion ht
  case bu01 | bu06 | bu13 | bu14 => exact State.modifyThen_trace ht
  case bu02 | bu03 | bu04 | bu05 | bu07 | bu08 | bu09 | bu10 | bu11 | bu12 => exact ⟨_, State.writeThen_trace ht, rfl⟩
  case wrPoll =>
    obtain ⟨r, n, -, rfl⟩ := State.poll_next ht
    exact ⟨[⟨.rd, s.cfg.stimAddr s.ch, (s.targetRead r).1⟩], by simp, _, rfl⟩
  case wrPush =>
    obtain ⟨r, n, -, rfl⟩ := State.push_next ht
    exact ⟨[⟨.wr, s.cfg.stimAddr s.ch, wordAt s.buf s.len s.idx⟩], by simp, rfl⟩

end Sys2Proof
end

section
/-! PROOFS. The family on memory, second part: the words of a channel, emitted and queued. A drain moves them, a push adds one,
nothing else touches them (R93). -/

namespace Sys2Proof.Machine

/-! ## The words of a channel -/

/-- The words that have entered a channel's FIFO, in order: those emitted, then those still queued (R93). -/
def State.entered (s : State) (ch : Chan) : List Word := s.emittedOn ch ++ s.fifoAt ch

theorem State.entered_congr {s t : State} (he : t.emit = s.emit) (hf : t.fifo = s.fifo) (ch : Chan) :
    t.entered ch = s.entered ch := by
  simp [State.entered, State.emittedOn, State.fifoAt, he, hf]

theorem State.emittedOn_addEmit_same (s : State) (ch : Chan) (w : Word) :
    (s.addEmit ch w).emittedOn ch = s.emittedOn ch ++ [w] := by
  simp [State.emittedOn]

theorem State.emittedOn_addEmit_ne (s : State) {ch c : Chan} (w : Word) (h : c ≠ ch) :
    (s.addEmit ch w).emittedOn c = s.emittedOn c := by
  simp [State.emittedOn, h.symm]

/-- A drain moves a word from the queue to EMIT: no channel's words change (R92). -/
theorem State.entered_drain (s : State) (c ch : Chan) : (s.drain c).entered ch = s.entered ch := by
  obtain ⟨-, e⟩ | ⟨w, q, hq, e⟩ := s.drain_cases c
  · rw [e]
  · rw [e, State.entered, State.fifoAt_addEmit]
    by_cases hc : ch = c
    · subst hc
      rw [State.emittedOn_addEmit_same, State.fifoAt_setFifo_same, State.entered, hq, List.append_assoc]
      rfl
    · rw [State.emittedOn_addEmit_ne _ _ hc, State.fifoAt_setFifo_ne _ _ _ _ hc]
      rfl

/-- A write anywhere but to the channel's port leaves the channel's words alone. -/
theorem State.entered_targetWrite_ne (s : State) {r : BusReg} (v : Word) {ch : Chan} (h : r ≠ .port ch) :
    (s.targetWrite r v).entered ch = s.entered ch := by
  simp only [State.entered, State.emittedOn, State.targetWrite_emit, State.targetWrite_fifoAt_ne _ _ _ _ h]

/-- A write to a ready port adds the word (R88). -/
theorem State.entered_targetWrite_port (s : State) {ch : Chan} (v : Word) (h : s.ready ch = true) :
    (s.targetWrite (.port ch) v).entered ch = s.entered ch ++ [v] := by
  simp [State.targetWrite_port, State.entered, State.emittedOn, h]

/-! ## The words written to a port -/

theorem stimWrites_append (c : Cfg) (ch : Chan) (tr new : List BusTxn) :
    stimWrites c ch (tr ++ new) = stimWrites c ch tr ++ stimWrites c ch new := by
  simp [stimWrites]

theorem stimWrites_read (c : Cfg) (ch : Chan) (a v : Word) : stimWrites c ch [⟨.rd, a, v⟩] = [] := by
  simp [stimWrites]

theorem stimWrites_write_same (c : Cfg) (ch : Chan) (v : Word) : stimWrites c ch [⟨.wr, c.stimAddr ch, v⟩] = [v] := by
  simp [stimWrites]

theorem stimWrites_write_ne (c : Cfg) {ch : Chan} {a : Word} (v : Word) (h : a ≠ c.stimAddr ch) :
    stimWrites c ch [⟨.wr, a, v⟩] = [] := by
  simp [stimWrites, h]

/-! ## The flow invariant under the updates of the state -/

/-- The flow invariant reads the configuration, EMIT, the queues and TRACE only. -/
theorem State.FlowInv.of_sameTarget {s t : State} (h : s.FlowInv) (e : s.SameTarget t) : t.FlowInv := by
  intro ch hch
  rw [e.cfg] at hch ⊢
  rw [e.trace]
  exact (State.entered_congr e.emit e.fifo ch).trans (h ch hch)

/-- A read adds nothing to the words written, and takes nothing from the target. -/
theorem State.FlowInv.targetRead {s : State} (h : s.FlowInv) (r : BusReg) (a v : Word) :
    ((s.targetRead r).2.log ⟨.rd, a, v⟩).FlowInv := by
  have hread : (s.targetRead r).2.FlowInv := h.of_sameTarget (by constructor <;> simp)
  intro ch hch
  rw [State.log_trace, stimWrites_append, stimWrites_read, List.append_nil]
  exact hread ch hch

/-- A write to one of the thirteen registers reaches no queue and is at no port. -/
theorem State.FlowInv.fixedWrite {s : State} (h : s.FlowInv) (hok : s.cfg.ok = true) {a : Word} (ha : a ∈ s.cfg.fixedAddrs)
    {r : BusReg} (hr : s.cfg.regAt a = some r) (v : Word) : ((s.log ⟨.wr, a, v⟩).targetWrite r v).FlowInv := by
  intro ch hch
  simp only [State.targetWrite_cfg, State.log_cfg] at hch ⊢
  have hport : a ≠ s.cfg.stimAddr ch := fun e => Cfg.stimAddr_not_fixed hok hch (e ▸ ha)
  rw [State.targetWrite_trace, State.log_trace, stimWrites_append, stimWrites_write_ne _ _ hport, List.append_nil]
  exact (State.entered_targetWrite_ne _ v (Cfg.regAt_fixed_ne_port hok ha hr ch)).trans (h ch hch)

/-- A write to a ready port enters its queue and is at no other port (R88, R9 (b)). -/
theorem State.FlowInv.portWrite {s : State} (h : s.FlowInv) (hok : s.cfg.ok = true) {c : Chan} (hc : c.toNat < s.cfg.nChannels)
    (hready : s.ready c = true) (v : Word) : ((s.log ⟨.wr, s.cfg.stimAddr c, v⟩).targetWrite (.port c) v).FlowInv := by
  intro ch hch
  simp only [State.targetWrite_cfg, State.log_cfg] at hch ⊢
  rw [State.targetWrite_trace, State.log_trace, stimWrites_append, ← h ch hch]
  by_cases e : ch = c
  · subst e
    rw [stimWrites_write_same]
    exact State.entered_targetWrite_port _ v hready
  · have haddr : s.cfg.stimAddr c ≠ s.cfg.stimAddr ch := fun ea => e (Cfg.stimAddr_inj hok hc hch ea).symm
    rw [stimWrites_write_ne _ _ haddr, List.append_nil]
    exact State.entered_targetWrite_ne _ v fun ep => e (BusReg.port.inj ep).symm

/-- Moving SEQ and IDX does not touch the words. -/
theorem State.FlowInv.setSeq {s : State} (h : s.FlowInv) (n : BitVec 5) : (s.setSeq n).FlowInv := h
theorem State.FlowInv.setIdx {s : State} (h : s.FlowInv) (i : Nat) : (s.setIdx i).FlowInv := h

/-- The drain keeps the flow invariant. -/
theorem State.FlowInv.drain {s : State} (h : s.FlowInv) (c : Chan) : (s.drain c).FlowInv := by
  intro ch hch
  rw [State.drain_cfg] at hch ⊢
  rw [State.drain_trace]
  exact (s.entered_drain c ch).trans (h ch hch)

/-! ## The flow invariant under the operations -/

/-- The address of a bring-up operation's row is one of the thirteen (R123). -/
theorem exec_bringup_fixed (s : State) {i : Instr} (hi : i ∈ bringUpOps) :
    ∃ a ∈ s.cfg.fixedAddrs, ∃ n : BitVec 5,
      (∃ v, exec i s = s.writeThen a v n) ∨ ∃ f, exec i s = s.modifyThen a f n := by
  cases i
  case bu01 | bu06 | bu13 | bu14 => exact ⟨_, by simp [Cfg.fixedAddrs, Cfg.fixedMap], _, .inr ⟨_, rfl⟩⟩
  case bu02 | bu03 | bu04 | bu05 | bu07 | bu08 | bu09 | bu10 | bu11 | bu12 =>
    exact ⟨_, by simp [Cfg.fixedAddrs, Cfg.fixedMap], _, .inl ⟨_, rfl⟩⟩
  all_goals simp [bringUpOps] at hi

theorem State.FlowInv.exec_bringup {s t : State} {i : Instr} (h : s.FlowInv) (hok : s.cfg.ok = true) (hi : i ∈ bringUpOps)
    (ht : exec i s = .next t) : t.FlowInv := by
  obtain ⟨a, ha, n, ⟨v, e⟩ | ⟨f, e⟩⟩ := exec_bringup_fixed s hi
  · obtain ⟨r, hr, rfl⟩ := State.writeThen_next (e.symm.trans ht)
    exact (h.fixedWrite hok ha hr v).setSeq n
  · obtain ⟨r, hr, rfl⟩ := State.modifyThen_next (e.symm.trans ht)
    have hread := h.targetRead r a (s.targetRead r).1
    exact (hread.fixedWrite (by simpa using hok) (by simpa using ha) (by simpa using hr) _).setSeq n

theorem State.FlowInv.poll {s t : State} (h : s.FlowInv) (ht : s.poll = .next t) : t.FlowInv := by
  obtain ⟨r, n, -, rfl⟩ := State.poll_next ht
  exact (h.targetRead r _ _).setSeq n

/-- A push at a ready port keeps the flow invariant; that the port is ready is the machine's invariant (R204). -/
theorem State.FlowInv.push {s t : State} (h : s.FlowInv) (hinv : s.Inv) (hs : s.seq = Seq.wrPush) (ht : s.push = .next t) :
    t.FlowInv := by
  obtain ⟨hch, -, -⟩ := hinv.writeSound
  rw [State.push_eq s hinv.cfgOk hch] at ht
  cases ht
  exact ((h.portWrite hinv.cfgOk hch (hinv.pushReady hs) _).setIdx _).setSeq _

/-- The machine's own step keeps the flow invariant. -/
theorem State.FlowInv.proceed {s t : State} (h : s.FlowInv) (hinv : s.Inv) (ht : proceed s = .next t) : t.FlowInv := by
  obtain ⟨-, he⟩ | ⟨-, i, hi, he⟩ := proceed_next ht
  · exact h.of_sameTarget (s.sameTarget_fetchCommand.trans (exec_command_sameTarget s.fetchCommand_format he))
  · obtain ⟨-, hop⟩ | ⟨-, rfl⟩ | ⟨hs, rfl⟩ := decodeUop_cases hi
    · exact h.exec_bringup hinv.cfgOk hop he
    · exact h.poll he
    · exact h.push hinv hs he

/-- Every step but a reset keeps the flow invariant. -/
theorem State.FlowInv.step {s t : State} (h : s.FlowInv) (hinv : s.Inv) (hr : s.noResetNext) (ht : step s = .next t) :
    t.FlowInv := by
  have hu := h.of_sameTarget s.sameTarget_nextChoice
  obtain ⟨-, ⟨-, hp⟩ | ⟨c, -, rfl⟩ | ⟨hreset, -⟩⟩ := step_next ht
  · exact hu.proceed (hinv.of_sameCore s.sameCore_nextChoice) hp
  · exact hu.drain c
  · exact absurd hreset hr

end Sys2Proof.Machine

namespace Sys2Proof

open Machine

/-- Settles O49: the flow invariant is kept by the machine and by the drain, and EMIT comes first in it. -/
theorem noWordIsDroppedOrReordered : Obligations.NoWordIsDroppedOrReordered := by
  intro s t hinv h hr ht
  have hflow := h.step hinv hr ht
  refine ⟨hflow, fun ch hch => ⟨⟨t.fifoAt ch, hflow ch hch⟩, fun hempty => ?_⟩⟩
  rw [← hflow ch hch, hempty, List.append_nil]

end Sys2Proof
end

section
/-! PROOFS. The family on memory, third part: a WRITE under a schedule without resets. Each choice of the environment advances
the run by a known amount (`State.Advances`); the advances of a schedule are put together choice by choice (R200 to R205, R94). -/

namespace Sys2Proof.Machine

/-! ## Runs -/

theorem run_succ {s t : State} (h : step s = .next t) (k : Nat) : core.run (k + 1) s = core.run k t := by
  simp only [Host.Core.run, core, h]

theorem run_add {s t : State} : ∀ {j : Nat}, core.run j s = .next t → ∀ k, core.run (j + k) s = core.run k t
  | 0, h, k => by
    cases h
    rw [Nat.zero_add]
  | j + 1, h, k => by
    cases hs : step s with
    | next u =>
      rw [run_succ hs] at h
      rw [Nat.add_right_comm, run_succ hs, run_add h]
    | fault r => simp [Host.Core.run, core, hs] at h
    | refused r => simp [Host.Core.run, core, hs] at h

/-! ## What a ready port needs -/

theorem State.ready_iff (s : State) (ch : Chan) :
    s.ready ch = true ↔ s.channelEnabled ch = true ∧ (s.fifoAt ch).length < s.cfg.fifoDepth := by
  simp [State.ready]

/-- A drain of another channel leaves the port as it is. -/
theorem State.ready_drain_ne (s : State) {c ch : Chan} (h : ch ≠ c) : (s.drain c).ready ch = s.ready ch := by
  obtain ⟨-, e⟩ | ⟨w, q, -, e⟩ := s.drain_cases c
  · rw [e]
  · simp [e, State.ready, State.fifoAt_setFifo_ne _ _ _ _ h]

/-- A drain of the channel makes room: its port is ready afterwards, if the channel is enabled (R54, R56). -/
theorem State.Inv.ready_drain_same {s : State} (h : s.Inv) {ch : Chan} (hch : ch.toNat < s.cfg.nChannels)
    (hen : s.channelEnabled ch = true) : (s.drain ch).ready ch = true := by
  obtain ⟨-, -, -, -, hdepth⟩ := Cfg.sizes_of_ok h.cfgOk
  have hbound := h.fifoBound ch
  rw [if_pos hch] at hbound
  obtain ⟨hq, e⟩ | ⟨w, q, hq, e⟩ := s.drain_cases ch
  · rw [e, State.ready_iff, hq]
    exact ⟨hen, hdepth⟩
  · rw [hq, List.length_cons] at hbound
    simp only [e, State.ready_addEmit, State.ready_iff, State.channelEnabled_setFifo, State.fifoAt_setFifo_same,
      State.setFifo_cfg]
    exact ⟨hen, by omega⟩

/-! ## How far a run has come -/

/-- The word a WRITE pushes next (R202). -/
def State.nextWord (s : State) : Word := wordAt s.buf s.len s.idx

/-- The transaction of that push. -/
def State.nextPush (s : State) : BusTxn := ⟨.wr, s.cfg.stimAddr s.ch, s.nextWord⟩

/-- SEQ after that push: the poll of the next word, or IDLE after the last (R202). -/
def State.seqAfterPush (s : State) : BitVec 5 := if s.idx + 1 = s.nwords then Seq.idle else Seq.wrPoll

/-- In `k` steps of a WRITE the run has come from `s` to `t`: it has used `k` choices of the environment, made the transactions
`new` and pushed the words `ws` on CH, and it has left everything else of the WRITE and of the target as it was. -/
structure State.Advances (s t : State) (k : Nat) (new : List BusTxn) (ws : List Word) : Prop where
  run : core.run k s = .next t
  inv : t.Inv
  env : t.env = s.env.drop k
  cfg : t.cfg = s.cfg
  regs : t.regs = s.regs
  locks : t.locks = s.locks
  ch : t.ch = s.ch
  buf : t.buf = s.buf
  len : t.len = s.len
  idx : t.idx = s.idx + ws.length
  trace : t.trace = s.trace ++ new
  entered : t.entered s.ch = s.entered s.ch ++ ws
  others : ∀ c, c ≠ s.ch → t.entered c = s.entered c

namespace State.Advances

variable {s t u : State} {j k : Nat} {new new' : List BusTxn} {ws ws' : List Word}

theorem refl (h : s.Inv) : s.Advances s 0 [] [] := by
  constructor <;> simp [h, Host.Core.run]

theorem trans (h : s.Advances t j new ws) (h' : t.Advances u k new' ws') :
    s.Advances u (j + k) (new ++ new') (ws ++ ws') where
  run := (run_add h.run k).trans h'.run
  inv := h'.inv
  env := by rw [h'.env, h.env, List.drop_drop]
  cfg := h'.cfg.trans h.cfg
  regs := h'.regs.trans h.regs
  locks := h'.locks.trans h.locks
  ch := h'.ch.trans h.ch
  buf := h'.buf.trans h.buf
  len := h'.len.trans h.len
  idx := by rw [h'.idx, h.idx, List.length_append, Nat.add_assoc]
  trace := by rw [h'.trace, h.trace, List.append_assoc]
  entered := by rw [← h.ch, h'.entered, h.ch, h.entered, List.append_assoc]
  others := fun c hc => (h'.others c (h.ch ▸ hc)).trans (h.others c hc)

theorem nwords (h : s.Advances t k new ws) : t.nwords = s.nwords := by
  simp only [State.nwords, h.len]

theorem channelEnabled (h : s.Advances t k new ws) : t.channelEnabled t.ch = s.channelEnabled s.ch := by
  rw [h.ch, State.channelEnabled_congr h.cfg h.regs]

/-- Before the push the word and what follows it stay the same. -/
theorem nextWord (h : s.Advances t k new []) : t.nextWord = s.nextWord := by
  simp [State.nextWord, h.buf, h.len, h.idx]

theorem nextPush (h : s.Advances t k new []) : t.nextPush = s.nextPush := by
  simp [State.nextPush, h.nextWord, h.cfg, h.ch]

theorem seqAfterPush (h : s.Advances t k new []) : t.seqAfterPush = s.seqAfterPush := by
  simp [State.seqAfterPush, h.nwords, h.idx]

end State.Advances

/-! ## One choice of the environment -/

variable {rest : List EnvAction}

/-- The drain neither reads nor writes the schedule. -/
theorem State.drain_withEnv (s : State) (c : Chan) (es : List EnvAction) :
    ({ s with env := es } : State).drain c = { s.drain c with env := es } := by
  have hq : State.fifoAt { s with env := es } c = s.fifoAt c := rfl
  rw [State.drain, State.drain, hq]
  cases s.fifoAt c <;> rfl

/-- A drain advances the run by no transaction and no word; SEQ waits. -/
theorem State.Inv.advances_drain {s : State} (h : s.Inv) {c : Chan} (henv : s.env = .drain c :: rest) :
    ∃ t : State, s.Advances t 1 [] [] ∧ t.seq = s.seq ∧ t.ready t.ch = (s.drain c).ready s.ch := by
  have hstep : Machine.step s = .next { s.drain c with env := rest } := by
    rw [step_drain h.cfgOk (State.nextChoice_cons henv), State.drain_withEnv]
  refine ⟨{ s.drain c with env := rest }, ?_, s.drain_seq c, congrArg _ (s.drain_ch c)⟩
  exact
    { run := run_succ hstep 0
      inv := h.step hstep
      env := by simp [henv]
      cfg := by simp
      regs := by simp
      locks := by simp
      ch := by simp
      buf := by simp
      len := by simp
      idx := by simp
      trace := by simp
      entered := (s.entered_drain c s.ch).trans (List.append_nil _).symm
      others := fun ch _ => s.entered_drain c ch }

/-- A move of the machine at a micro-operation is the operation's. -/
theorem State.Inv.step_uop {s : State} (h : s.Inv) (henv : s.env = .proceed :: rest) {i : Instr}
    (hi : decodeUop s.seq = .ok i) :
    Machine.step s = exec i { s with env := rest } := by
  have hfetch : State.fetch { s with env := rest } = .run i { s with env := rest } := State.fetch_of_code hi
  rw [step_proceed h.cfgOk (State.nextChoice_cons henv), Machine.proceed, hfetch]

/-- The machine polls: one read, whose ready bit says whether the port is ready and where SEQ goes (R201). -/
theorem State.Inv.advances_poll {s : State} (h : s.Inv) (hs : s.seq = Seq.wrPoll) (henv : s.env = .proceed :: rest) :
    ∃ (t : State) (d : Word), s.Advances t 1 [⟨.rd, s.cfg.stimAddr s.ch, d⟩] [] ∧
      (d &&& s.cfg.stimReadyMask ≠ 0#32 ↔ s.ready s.ch = true) ∧ t.ready t.ch = s.ready s.ch ∧
      t.seq = if s.ready s.ch then Seq.wrPush else Seq.wrPoll := by
  have hstep := h.step_uop henv (i := .wrPoll) (by rw [hs]; decide)
  have hpoll := hstep.trans (State.poll_eq { s with env := rest } h.cfgOk h.writeSound.1)
  have hbit : s.statusWord s.ch &&& s.cfg.stimReadyMask ≠ 0#32 ↔ s.ready s.ch = true := by
    rw [← s.statusWord_ready s.ch (Cfg.readyMask_ne_zero h.cfgOk)]
    exact bne_iff_ne.symm
  exact ⟨_, s.statusWord s.ch,
    { run := run_succ hpoll 0
      inv := h.step hpoll
      env := by simp [henv]
      cfg := rfl, regs := rfl, locks := rfl, ch := rfl, buf := rfl, len := rfl, idx := rfl, trace := rfl
      entered := (List.append_nil _).symm
      others := fun _ _ => rfl }, hbit, rfl, rfl⟩

/-- The machine pushes: one write, and the word has entered the FIFO (R202, R204). -/
theorem State.Inv.advances_push {s : State} (h : s.Inv) (hs : s.seq = Seq.wrPush) (henv : s.env = .proceed :: rest) :
    ∃ t : State, s.Advances t 1 [s.nextPush] [s.nextWord] ∧ t.seq = s.seqAfterPush := by
  have hstep := h.step_uop henv (i := .wrPush) (by rw [hs]; decide)
  have hpush := hstep.trans (State.push_eq { s with env := rest } h.cfgOk h.writeSound.1)
  exact ⟨_,
    { run := run_succ hpush 0
      inv := h.step hpush
      env := by simp [henv]
      cfg := by simp
      regs := by simp [State.targetWrite_port]
      locks := by simp [State.targetWrite_port]
      ch := by simp
      buf := by simp
      len := by simp
      idx := by simp
      trace := by simp [State.nextPush, State.nextWord]
      entered := State.entered_targetWrite_port _ _ (h.pushReady hs)
      others := fun c hc => State.entered_targetWrite_ne _ _ fun e => hc (BusReg.port.inj e).symm }, rfl⟩

/-! ## One word under a schedule -/

/-- Reads that find the port not ready may come before a WRITE's trace (R203). -/
theorem pollsThenPush_reads_append {c : Cfg} {ch : Chan} {w : Word} {ws : List Word} {reads new : List BusTxn}
    (hr : ∀ x ∈ reads, x.dir = .rd ∧ x.addr = c.stimAddr ch ∧ x.data &&& c.stimReadyMask = 0#32)
    (h : pollsThenPush c ch (w :: ws) new) : pollsThenPush c ch (w :: ws) (reads ++ new) := by
  obtain ⟨reads', d, rest, rfl, hr', hd, hrest⟩ := h
  exact ⟨reads ++ reads', d, rest, by simp, fun x hx => (List.mem_append.mp hx).elim (hr x) (hr' x), hd, hrest⟩

/-- A read that finds the port ready, and the write of the word. -/
theorem pollsThenPush_ready {c : Cfg} {ch : Chan} {d : Word} (w : Word) (hd : d &&& c.stimReadyMask ≠ 0#32) :
    pollsThenPush c ch [w] [⟨.rd, c.stimAddr ch, d⟩, ⟨.wr, c.stimAddr ch, w⟩] :=
  ⟨[], d, [], rfl, by simp, hd, rfl⟩

/-- The trace of one word, then the trace of the words after it. -/
theorem pollsThenPush_append {c : Cfg} {ch : Chan} {w : Word} {ws : List Word} {new new' : List BusTxn}
    (h : pollsThenPush c ch [w] new) (h' : pollsThenPush c ch ws new') : pollsThenPush c ch (w :: ws) (new ++ new') := by
  obtain ⟨reads, d, rest, rfl, hreads, hd, rfl⟩ := h
  exact ⟨reads, d, new', by simp, hreads, hd, h'⟩

/-- What the schedule still has to hold at the poll of a word: a drain of CH if the port is not ready, and two moves. -/
def State.pushNeeds (s : State) : List EnvAction :=
  if s.ready s.ch then [.proceed, .proceed] else [.drain s.ch, .proceed, .proceed]

theorem State.pushNeeds_sublist (s : State) : s.pushNeeds.Sublist [.drain s.ch, .proceed, .proceed] := by
  simp only [State.pushNeeds]
  split
  · exact List.sublist_cons_self _ _
  · exact List.Sublist.refl _

/-- The word is pushed within `n` steps from its poll. -/
def State.PushesWithin (s : State) (n : Nat) : Prop :=
  ∃ (k : Nat) (t : State) (new : List BusTxn), k ≤ n ∧ s.Advances t k new [s.nextWord] ∧
    pollsThenPush s.cfg s.ch [s.nextWord] new ∧ t.seq = s.seqAfterPush

/-- The push follows as soon as the machine moves, whatever drains come first. -/
theorem State.Inv.advances_to_push : ∀ (es : List EnvAction) {s : State}, s.Inv → s.seq = Seq.wrPush →
    EnvAction.reset ∉ es → EnvAction.proceed ∈ es → s.env = es ++ rest →
    ∃ (k : Nat) (t : State), k ≤ es.length ∧ s.Advances t k [s.nextPush] [s.nextWord] ∧ t.seq = s.seqAfterPush
  | [], _, _, _, _, hmem, _ => absurd hmem List.not_mem_nil
  | .reset :: _, _, _, _, hno, _, _ => absurd List.mem_cons_self hno
  | .proceed :: es, _, h, hs, _, _, henv => by
    obtain ⟨t, hadv, hseq⟩ := h.advances_push hs henv
    exact ⟨1, t, by simp, hadv, hseq⟩
  | .drain c :: es, _, h, hs, hno, hmem, henv => by
    obtain ⟨t, hadv, hseqt, -⟩ := h.advances_drain henv
    have hmem' : EnvAction.proceed ∈ es := by simpa using hmem
    obtain ⟨k, u, hk, hadv', hseq⟩ := hadv.inv.advances_to_push es (hseqt.trans hs) (fun hm => hno (List.mem_cons_of_mem _ hm))
      hmem' (by simp [hadv.env, henv])
    rw [hadv.nextPush, hadv.nextWord] at hadv'
    exact ⟨1 + k, u, by simp; omega, hadv.trans hadv', hseq.trans hadv.seqAfterPush⟩

/-- What comes before the word's push, drains and polls that find the port not ready, takes its steps and adds its reads. -/
theorem State.Advances.pushesWithin {s t : State} {j n : Nat} {reads : List BusTxn} (h : s.Advances t j reads [])
    (hr : ∀ x ∈ reads, x.dir = .rd ∧ x.addr = s.cfg.stimAddr s.ch ∧ x.data &&& s.cfg.stimReadyMask = 0#32)
    (h' : t.PushesWithin n) : s.PushesWithin (n + j) := by
  obtain ⟨k, u, new, hk, hadv, hnew, hseq⟩ := h'
  rw [h.nextWord] at hadv
  rw [h.nextWord, h.cfg, h.ch] at hnew
  exact ⟨j + k, u, _, by omega, h.trans hadv, pollsThenPush_reads_append hr hnew, hseq.trans h.seqAfterPush⟩

/-- The two moves are needed whether the port is ready or not. -/
theorem State.moves_sublist_pushNeeds (s : State) : [EnvAction.proceed, .proceed].Sublist s.pushNeeds := by
  simp only [State.pushNeeds]
  split
  · exact List.Sublist.refl _
  · exact List.sublist_cons_self _ _

theorem State.pushNeeds_congr {s t : State} (hc : t.ch = s.ch) (hr : t.ready t.ch = s.ready s.ch) :
    t.pushNeeds = s.pushNeeds := by
  rw [State.pushNeeds, State.pushNeeds, hr, hc]

/-- After a drain the rest of the schedule holds what is still needed: a drain of CH makes the port ready, any other is not
what was needed. -/
theorem State.Inv.pushNeeds_drain {s : State} (h : s.Inv) (hen : s.channelEnabled s.ch = true) {c : Chan}
    {es : List EnvAction} (hneeds : s.pushNeeds.Sublist (.drain c :: es)) : (s.drain c).pushNeeds.Sublist es := by
  have hmoves : [EnvAction.proceed, .proceed].Sublist es :=
    (s.moves_sublist_pushNeeds.trans hneeds).of_cons_of_ne EnvAction.noConfusion
  by_cases hc : s.ch = c
  · have hready : (s.drain c).ready s.ch = true := hc ▸ h.ready_drain_same h.writeSound.1 hen
    simpa [State.pushNeeds, hready] using hmoves
  · rw [State.pushNeeds_congr (s := s) (by simp) (by simpa using s.ready_drain_ne hc)]
    simp only [State.pushNeeds] at hneeds ⊢
    split at hneeds
    · rwa [if_pos ‹_›]
    · rw [if_neg ‹_›]
      exact hneeds.of_cons_of_ne fun e => hc (EnvAction.drain.inj e)

/-- The word is pushed within any schedule that holds what its push needs, whatever stands between (R203, R94). -/
theorem State.Inv.pushesWithin : ∀ (es : List EnvAction) {s : State}, s.Inv → s.seq = Seq.wrPoll →
    s.channelEnabled s.ch = true → EnvAction.reset ∉ es → s.pushNeeds.Sublist es → s.env = es ++ rest →
    s.PushesWithin es.length
  | [], s, _, _, _, _, hneeds, _ => nomatch s.moves_sublist_pushNeeds.trans hneeds
  | .reset :: _, _, _, _, _, hno, _, _ => absurd List.mem_cons_self hno
  | .drain c :: es, s, h, hs, hen, hno, hneeds, henv => by
    obtain ⟨t, hadv, hseq, hready⟩ := h.advances_drain henv
    have hsame : t.pushNeeds = (s.drain c).pushNeeds := State.pushNeeds_congr (by simp [hadv.ch]) (by simp [hready])
    exact hadv.pushesWithin (by simp) (hadv.inv.pushesWithin es (hseq.trans hs) (hadv.channelEnabled.trans hen)
      (fun hm => hno (List.mem_cons_of_mem _ hm)) (hsame ▸ h.pushNeeds_drain hen hneeds) (by simp [hadv.env, henv]))
  | .proceed :: es, s, h, hs, hen, hno, hneeds, henv => by
    obtain ⟨t, d, hadv, hd, hready, hseq⟩ := h.advances_poll hs henv
    have hno' : EnvAction.reset ∉ es := fun hm => hno (List.mem_cons_of_mem _ hm)
    have henv' : t.env = es ++ rest := by simp [hadv.env, henv]
    cases hr : s.ready s.ch
    · have hneeds' : t.pushNeeds.Sublist es := by
        rw [State.pushNeeds_congr hadv.ch hready]
        simp only [State.pushNeeds, hr] at hneeds ⊢
        exact hneeds.of_cons_of_ne EnvAction.noConfusion
      exact hadv.pushesWithin (by simpa [hr] using hd)
        (hadv.inv.pushesWithin es (by simpa [hr] using hseq) (hadv.channelEnabled.trans hen) hno' hneeds' henv')
    · have hmem : EnvAction.proceed ∈ es :=
        List.singleton_sublist.mp (s.moves_sublist_pushNeeds.trans hneeds).of_cons_cons
      obtain ⟨k, u, hk, hadv', hseq'⟩ := hadv.inv.advances_to_push es (by simpa [hr] using hseq) hno' hmem henv'
      rw [hadv.nextPush, hadv.nextWord] at hadv'
      exact ⟨1 + k, u, _, by simp; omega, hadv.trans hadv', pollsThenPush_ready _ (hd.mpr hr),
        hseq'.trans hadv.seqAfterPush⟩

/-! ## All words of a WRITE -/

/-- The words a WRITE still has to push. -/
def State.remainingWords (s : State) : List Word := (List.range' s.idx (s.nwords - s.idx)).map (wordAt s.buf s.len)

/-- At the start all words remain (R205). -/
theorem State.Inv.remainingWords_start {s : State} (h : s.Inv) (hidx : s.idx = 0) : s.remainingWords = wordsOf s.buf := by
  obtain ⟨-, hlen, -⟩ := h.writeSound
  simp [State.remainingWords, State.nwords, wordsOf, hidx, hlen, List.range_eq_range']

/-- A push takes the first of them. -/
theorem State.Advances.remainingWords {s t : State} {k : Nat} {new : List BusTxn} (h : s.Advances t k new [s.nextWord])
    (hlt : s.idx < s.nwords) : s.remainingWords = s.nextWord :: t.remainingWords := by
  have hsub : s.nwords - s.idx = s.nwords - (s.idx + 1) + 1 := by omega
  simp [State.remainingWords, h.nwords, h.idx, h.buf, h.len, State.nextWord, hsub, List.range'_succ]

/-- The run stands between two words of a WRITE: at the poll of the next, or at IDLE after the last. -/
def State.BetweenWords (s : State) : Prop := s.seq = if s.idx = s.nwords then Seq.idle else Seq.wrPoll

theorem State.Advances.betweenWords {s t : State} {k : Nat} {new : List BusTxn} (h : s.Advances t k new [s.nextWord])
    (hseq : t.seq = s.seqAfterPush) : t.BetweenWords := by
  rw [State.BetweenWords, hseq, State.seqAfterPush, h.nwords, h.idx]
  rfl

/-- While words remain it is the poll. -/
theorem State.BetweenWords.seq_eq_wrPoll {s : State} (h : s.BetweenWords) (hlt : s.idx < s.nwords) : s.seq = Seq.wrPoll := by
  rw [h, if_neg hlt.ne]

/-- With no word left the WRITE is complete, in no further step. -/
theorem State.Inv.advances_of_no_words {s : State} (h : s.Inv) (hb : s.BetweenWords) (hidx : s.idx = s.nwords) :
    s.Advances s 0 [] s.remainingWords ∧ s.seq = Seq.idle := by
  have hnil : s.remainingWords = [] := by simp [State.remainingWords, hidx]
  rw [hnil]
  exact ⟨.refl h, by rw [hb, if_pos hidx]⟩

/-- Word by word: each round of the schedule pushes one, within the part of the schedule that holds the round. -/
theorem State.Inv.write_completes : ∀ (n : Nat) (es : List EnvAction) {s : State}, s.Inv → s.BetweenWords →
    s.channelEnabled s.ch = true → s.idx + n = s.nwords → EnvAction.reset ∉ es → (fairRounds s.ch n).Sublist es →
    s.env = es ++ rest →
    ∃ (k : Nat) (t : State) (new : List BusTxn), k ≤ es.length ∧ s.Advances t k new s.remainingWords ∧
      t.seq = Seq.idle ∧ pollsThenPush s.cfg s.ch s.remainingWords new
  | 0, _, s, h, hb, _, hn, _, _, _ => by
    obtain ⟨hadv, hseq⟩ := h.advances_of_no_words hb hn
    exact ⟨0, s, [], Nat.zero_le _, hadv, hseq, by simp [State.remainingWords, ← hn, pollsThenPush]⟩
  | n + 1, es, s, h, hb, hen, hn, hno, hrounds, henv => by
    have hlt : s.idx < s.nwords := by omega
    have hsplit : ([EnvAction.drain s.ch, .proceed, .proceed] ++ fairRounds s.ch n).Sublist es := by
      simpa [fairRounds, List.replicate_succ] using hrounds
    obtain ⟨es₁, es₂, rfl, hround, hrest⟩ := List.append_sublist_iff.mp hsplit
    rw [List.mem_append, not_or] at hno
    obtain ⟨k, t, new, hk, hadv, hnew, hseq⟩ := h.pushesWithin es₁ (hb.seq_eq_wrPoll hlt) hen hno.1
      (s.pushNeeds_sublist.trans hround) (henv.trans (List.append_assoc _ _ _))
    have hno' : EnvAction.reset ∉ es₁.drop k ++ es₂ := by
      rw [List.mem_append, not_or]
      exact ⟨fun hm => hno.1 (List.mem_of_mem_drop hm), hno.2⟩
    have henv' : t.env = es₁.drop k ++ es₂ ++ rest := by
      rw [hadv.env, henv, List.append_assoc, List.drop_append_of_le_length hk, List.append_assoc]
    obtain ⟨k', u, new', hk', hadv', hseq', hnew'⟩ := hadv.inv.write_completes n (es₁.drop k ++ es₂)
      (hadv.betweenWords hseq) (hadv.channelEnabled.trans hen) (by rw [hadv.nwords, hadv.idx, ← hn]; simp; omega) hno'
      (by rw [hadv.ch]; exact hrest.trans (List.sublist_append_right _ _)) henv'
    rw [hadv.cfg, hadv.ch] at hnew'
    rw [hadv.remainingWords hlt]
    refine ⟨k + k', u, _, ?_, hadv.trans hadv', hseq', pollsThenPush_append hnew hnew'⟩
    simp only [List.length_append, List.length_drop] at hk' ⊢
    omega

/-! ## Rounds with nothing but drains between -/

/-- Drains alone advance the run by nothing but themselves. -/
theorem State.Inv.advances_drains : ∀ (ds : List Chan) {s : State}, s.Inv → s.env = ds.map EnvAction.drain ++ rest →
    ∃ t : State, s.Advances t ds.length [] [] ∧ t.seq = s.seq
  | [], s, h, _ => ⟨s, .refl h, rfl⟩
  | c :: ds, s, h, henv => by
    obtain ⟨a, hadv, hseqa, -⟩ := h.advances_drain henv
    obtain ⟨t, hadv', hseq⟩ := hadv.inv.advances_drains ds (by simp [hadv.env, henv])
    refine ⟨t, ?_, hseq.trans hseqa⟩
    rw [List.length_cons, Nat.add_comm]
    exact hadv.trans hadv'

/-- A round pushes one word, in exactly its length: its drain of CH makes the port ready for the poll. -/
theorem State.Inv.advances_round {s : State} (h : s.Inv) (hs : s.seq = Seq.wrPoll) (hen : s.channelEnabled s.ch = true)
    {ds : List Chan} (henv : s.env = ds.map EnvAction.drain ++ (.drain s.ch :: .proceed :: .proceed :: rest)) :
    ∃ (t : State) (new : List BusTxn), s.Advances t (ds.length + 3) new [s.nextWord] ∧ t.seq = s.seqAfterPush := by
  obtain ⟨a, hdrains, hseqa⟩ := h.advances_drains ds henv
  obtain ⟨b, hdrain, hseqb, hreadyb⟩ := hdrains.inv.advances_drain (c := a.ch) (rest := .proceed :: .proceed :: rest)
    (by simp [hdrains.env, henv, hdrains.ch])
  have hready := hreadyb.trans
    (hdrains.inv.ready_drain_same hdrains.inv.writeSound.1 (hdrains.channelEnabled.trans hen))
  have hdrained := hdrains.trans hdrain
  obtain ⟨d, v, hpoll, -, -, hseqd⟩ := hdrained.inv.advances_poll (rest := .proceed :: rest) (hseqb.trans (hseqa.trans hs))
    (by simp [hdrain.env, hdrains.env, henv])
  rw [if_pos hready] at hseqd
  have hbefore := hdrained.trans hpoll
  obtain ⟨t, hpush, hseqt⟩ := hbefore.inv.advances_push (rest := rest) hseqd
    (by simp [hpoll.env, hdrain.env, hdrains.env, henv])
  rw [hbefore.nextWord] at hpush
  exact ⟨t, _, hbefore.trans hpush, hseqt.trans hbefore.seqAfterPush⟩

/-- Round by round, each as long as it is. -/
theorem State.Inv.rounds_complete : ∀ (rounds : List (List Chan)) {s : State}, s.Inv → s.BetweenWords →
    s.channelEnabled s.ch = true → s.idx + rounds.length = s.nwords → s.env = drainFairRounds s.ch rounds ++ rest →
    ∃ (t : State) (new : List BusTxn), s.Advances t (drainFairRounds s.ch rounds).length new s.remainingWords ∧
      t.seq = Seq.idle
  | [], s, h, hb, _, hn, _ => ⟨s, [], h.advances_of_no_words hb hn⟩
  | ds :: rounds, s, h, hb, hen, hn, henv => by
    have hlt : s.idx < s.nwords := by rw [List.length_cons] at hn; omega
    obtain ⟨t, new, hadv, hseq⟩ := h.advances_round (rest := drainFairRounds s.ch rounds ++ rest) (ds := ds)
      (hb.seq_eq_wrPoll hlt) hen (by simp [henv, drainFairRounds])
    obtain ⟨u, new', hadv', hseq'⟩ := hadv.inv.rounds_complete rounds (hadv.betweenWords hseq)
      (hadv.channelEnabled.trans hen) (by rw [hadv.nwords, hadv.idx, ← hn]; simp; omega)
      (by simp [hadv.env, henv, hadv.ch, drainFairRounds, List.drop_append])
    rw [hadv.ch] at hadv'
    have hlen : (drainFairRounds s.ch (ds :: rounds)).length = ds.length + 3 + (drainFairRounds s.ch rounds).length := by
      simp [drainFairRounds]; omega
    rw [hlen, hadv.remainingWords hlt]
    exact ⟨u, _, hadv.trans hadv', hseq'⟩

/-- A WRITE that has just been accepted stands before its first word. -/
theorem State.Inv.betweenWords_start {s : State} (h : s.Inv) (hs : s.seq = Seq.wrPoll) : s.BetweenWords := by
  obtain ⟨-, hlt⟩ := h.writerHeld (by simp [State.inWriter, hs])
  rw [State.BetweenWords, if_neg hlt.ne, hs]

end Sys2Proof.Machine

namespace Sys2Proof

open Machine

/-- Settles O31: what the word's push needs is in the schedule, since an enabled port that is not ready is a full one. -/
theorem aWordIsPushedOnceAFullFifoIsDrained : Obligations.AWordIsPushedOnceAFullFifoIsDrained := by
  rintro s es h hs hen hno hmoves hfull ⟨rest, henv⟩
  have hneeds : s.pushNeeds.Sublist es := by
    simp only [State.pushNeeds]
    split
    · exact hmoves
    · rename_i hr
      have hbound := h.fifoBound s.ch
      rw [if_pos h.writeSound.1] at hbound
      rw [State.ready_iff] at hr
      exact hfull (hbound.antisymm (not_lt.mp fun hlt => hr ⟨hen, hlt⟩))
  obtain ⟨k, t, new, hk, hadv, hnew, hseq⟩ := h.pushesWithin es hs hen hno hneeds henv.symm
  exact ⟨k, t, new, hk, hadv.run, hseq, hadv.idx, hadv.env, hadv.regs, hadv.locks, hadv.trace, hnew, hadv.entered,
    hadv.others⟩

/-- Settles O30: each round of the schedule pushes the next word, whatever stands between. -/
theorem writeCompletesWhenDrainedForEachWord : Obligations.WriteCompletesWhenDrainedForEachWord := by
  rintro s es h hs hidx hen hno hrounds ⟨rest, henv⟩
  obtain ⟨k, t, new, hk, hadv, hseq, hnew⟩ := h.write_completes s.nwords es (h.betweenWords_start hs) hen
    (by rw [hidx, Nat.zero_add]) hno hrounds henv.symm
  rw [h.remainingWords_start hidx] at hadv hnew
  exact ⟨k, t, new, hk, hadv.run, hseq, hadv.env, hadv.regs, hadv.locks, hadv.trace, hnew, hadv.entered, hadv.others⟩

/-- Settles O32: a round pushes the next word in exactly its length. -/
theorem writeCompletesInDrainedRounds : Obligations.WriteCompletesInDrainedRounds := by
  intro s rounds rest h hs hidx hen hlen henv
  obtain ⟨t, new, hadv, hseq⟩ := h.rounds_complete rounds (h.betweenWords_start hs) hen
    (by rw [hidx, Nat.zero_add, hlen]) henv
  rw [h.remainingWords_start hidx] at hadv
  have hrest : t.env = rest := by rw [hadv.env, henv, List.drop_left]
  exact ⟨t, hadv.run, hseq, hrest, hadv.regs, hadv.locks, hadv.entered, hadv.others⟩

end Sys2Proof
end

section
/-! PROOFS. The family on encoding: the four command codes, the two driver codes and the table of micro-operations, decoder and
encoder against each other; the fetch of a reserved code; the divisor; the bytes of a word. -/

namespace Sys2Proof

/-! ## Commands (R121, R122) -/

/-- The four command codes are all the values of the field, so none is reserved. -/
theorem commandCode_cases (c : BitVec 2) : c = 0b00#2 ∨ c = 0b01#2 ∨ c = 0b10#2 ∨ c = 0b11#2 := by
  revert c
  decide

theorem decodeCmd_none {r : CommandRecord} (h : r.cmd = 0b00#2) : decodeCmd r = .none := by
  simp [decodeCmd, h]

theorem decodeCmd_acquire {r : CommandRecord} (h : r.cmd = 0b01#2) : decodeCmd r = .acquire := by
  simp [decodeCmd, h]

theorem decodeCmd_bringup {r : CommandRecord} (h : r.cmd = 0b10#2) : decodeCmd r = .bringup r.clockHz := by
  simp [decodeCmd, h]

theorem decodeCmd_write {r : CommandRecord} (h : r.cmd = 0b11#2) : decodeCmd r = .write r.channel r.bytes := by
  simp [decodeCmd, h]

/-- A record's operation encodes to a record with the same code, and with the same operands where the command uses them. -/
theorem encode_decodeCmd (r : CommandRecord) : ∃ p : CommandRecord, encode (decodeCmd r) = .cmd p ∧ p.cmd = r.cmd ∧
    (r.cmd = 0b10#2 → p.clockHz = r.clockHz) ∧ (r.cmd = 0b11#2 → p.channel = r.channel ∧ p.bytes = r.bytes) := by
  obtain h | h | h | h := commandCode_cases r.cmd
  · rw [decodeCmd_none h]
    exact ⟨_, rfl, h.symm, by simp [h], by simp [h]⟩
  · rw [decodeCmd_acquire h]
    exact ⟨_, rfl, h.symm, by simp [h], by simp [h]⟩
  · rw [decodeCmd_bringup h]
    exact ⟨_, rfl, h.symm, fun _ => rfl, by simp [h]⟩
  · rw [decodeCmd_write h]
    exact ⟨_, rfl, h.symm, by simp [h], fun _ => ⟨rfl, rfl⟩⟩

/-! ## Driver states (R125) -/

theorem encode_decodeDrv (d : BitVec 1) : encode (decodeDrv d) = .drv d := by
  revert d
  decide

/-! ## Micro-operations (R123, R135) -/

/-- An operation of the table encodes to its row's code. -/
theorem encode_of_mem_uopTable {q : BitVec 5} {i : Instr} (h : (q, i) ∈ uopTable) : encode i = .uop q := by
  have hrows : ∀ p ∈ uopTable, encode p.2 = .uop p.1 := by decide
  exact hrows _ h

/-- Every micro-operation has a row in the table. -/
theorem mem_uopTable_instrs {i : Instr} (h : i.format = .uop) : i ∈ uopTable.map Prod.snd := by
  cases i
  case none | acquire | bringup | write | drvInit | drvRun => cases h
  all_goals decide

/-- The encoding of a micro-operation decodes to it: encoder and decoder read the same row. -/
theorem decode_encode_of_uop {i : Instr} (h : i.format = .uop) : decode (encode i) = .ok i := by
  obtain ⟨⟨q, _⟩, hq, rfl⟩ := List.mem_map.mp (mem_uopTable_instrs h)
  rw [encode_of_mem_uopTable hq]
  exact decodeUop_of_mem hq

/-- The reserved codes are 0x0F and 0x12 to 0x1E (R135). -/
theorem decodeUop_eq_reservedCode_iff (q : BitVec 5) :
    decodeUop q = .error (.reservedCode q) ↔ (q = 0x0F#5 ∨ (0x12 ≤ q.toNat ∧ q.toNat ≤ 0x1E)) := by
  revert q
  decide

/-- The fetch finds a reserved code in SEQ, whatever FAULT holds: the code is not IDLE. -/
theorem Machine.State.fetch_of_reserved {s : State} {q : BitVec 5} (h : decodeUop s.seq = .error (.reservedCode q)) :
    s.fetch = .reserved := by
  have hidle : s.seq ≠ Seq.idle := by
    intro hs
    simp [hs, decodeUop] at h
  simp [State.fetch, State.accepting, hidle, h]

/-! ## The divisor (R128) -/

/-- No clock of 32 bits overflows the divisor: it is the quotient less 1. -/
theorem Cfg.divisor_toNat (c : Cfg) (f : Word) : (c.divisor f).toNat = f.toNat / c.targetBaudHz - 1 := by
  have hle : f.toNat / c.targetBaudHz ≤ f.toNat := Nat.div_le_self _ _
  have hf := f.isLt
  rw [Cfg.divisor, BitVec.toNat_ofNat, Nat.mod_eq_of_lt (by omega)]

/-! ## Words (R129, R130) -/

theorem extractLsb'_append_low {n : Nat} (x : BitVec n) (b : Byte) : (x ++ b).extractLsb' 0 8 = b := by
  rw [BitVec.extractLsb'_append_eq_of_add_le (by omega), BitVec.extractLsb'_eq_self]

theorem extractLsb'_append_high {n : Nat} (x : BitVec n) (b : Byte) (k : Nat) :
    (x ++ b).extractLsb' (k + 8) 8 = x.extractLsb' k 8 := by
  rw [BitVec.extractLsb'_append_eq_of_le (by omega), Nat.add_sub_cancel]

/-- Little-endian: the byte in bits 7:0 comes first (R11). -/
theorem bytesOfWord_concatBytes (b3 b2 b1 b0 : Byte) : bytesOfWord (concatBytes b3 b2 b1 b0) = [b0, b1, b2, b3] := by
  rw [bytesOfWord, concatBytes, extractLsb'_append_low,
    extractLsb'_append_high _ _ 0, extractLsb'_append_low,
    extractLsb'_append_high _ _ 8, extractLsb'_append_high _ _ 0, extractLsb'_append_low,
    extractLsb'_append_high _ _ 16, extractLsb'_append_high _ _ 8, extractLsb'_append_high _ _ 0, BitVec.extractLsb'_eq_self]

/-- Byte `j` of a word from the low end is the padded byte it was built from. -/
theorem extractLsb'_wordAt (buf : List Byte) (len i : Nat) {j : Nat} (hj : j < 4) :
    (wordAt buf len i).extractLsb' (8 * j) 8 = paddedByte buf len (4 * i + j) := by
  have hbytes := bytesOfWord_concatBytes (paddedByte buf len (4 * i + 3)) (paddedByte buf len (4 * i + 2))
    (paddedByte buf len (4 * i + 1)) (paddedByte buf len (4 * i))
  simp only [bytesOfWord, List.cons.injEq, and_true] at hbytes
  obtain ⟨h0, h1, h2, h3⟩ := hbytes
  interval_cases j
  exacts [h0, h1, h2, h3]

/-- With LEN the length of the sequence, the padding starts where the sequence ends. -/
theorem paddedByte_length (buf : List Byte) (j : Nat) :
    paddedByte buf buf.length j = if h : j < buf.length then buf[j] else 0#8 := by
  by_cases h : j < buf.length <;> simp [paddedByte, h]

/-- NWORDS is LEN / 4 rounded up: the least number of words that hold LEN bytes (R130). -/
theorem wordCount_le_iff (len n : Nat) : wordCount len ≤ n ↔ len ≤ 4 * n := by
  rw [wordCount]
  omega

open Machine

/-! ## The obligations -/

/-- Settles O4: the decoder finds a micro-operation in the row whose code the encoder gives it, and each command code and
driver code comes back. -/
theorem everyCodeHasOneMeaning : Obligations.EveryCodeHasOneMeaning :=
  ⟨fun _ _ h => encode_of_mem_uopTable (mem_uopTable_of_decodeUop h), encode_decodeDrv, encode_decodeCmd⟩

/-- Settles O15: the divisor plus 1 is the floor quotient, which its two bounds determine. -/
theorem divisorIsExact : Obligations.DivisorIsExact := by
  refine ⟨fun c f hc hf => ?_, fun c hbaud => by simp [Cfg.divisor, hbaud]⟩
  obtain ⟨hbaud, -⟩ := Cfg.sizes_of_ok hc
  have hpos : 1 ≤ f.toNat / c.targetBaudHz := Nat.div_pos hf.le hbaud
  refine ⟨hpos, c.divisor_toNat f, ?_, ?_⟩
  · rw [c.divisor_toNat, Nat.sub_add_cancel hpos]
    exact Nat.div_mul_le_self _ _
  · have hsucc : f.toNat / c.targetBaudHz - 1 + 2 = f.toNat / c.targetBaudHz + 1 := by omega
    rw [c.divisor_toNat, hsucc, ← Nat.div_lt_iff_lt_mul hbaud]
    exact Nat.lt_succ_self _

/-- Settles O27: a word gives back the padded bytes it was built from, and NWORDS is the least count that holds them. -/
theorem wordsAreLittleEndianAndZeroPadded : Obligations.WordsAreLittleEndianAndZeroPadded := by
  refine fun buf => ⟨(wordCount_le_iff _ _).mp le_rfl, fun n hn => (wordCount_le_iff _ _).mpr hn, fun i j _ hj => ?_⟩
  rw [extractLsb'_wordAt _ _ _ hj, paddedByte_length]

/-- Settles O1: one equation of the decoder per command code, and the four codes are all there are. -/
theorem commandAndDriverCodesDecode : Obligations.CommandAndDriverCodesDecode :=
  ⟨fun r => ⟨fun h => congrArg _ (decodeCmd_none h), fun h => congrArg _ (decodeCmd_acquire h),
      fun h => congrArg _ (decodeCmd_bringup h), fun h => congrArg _ (decodeCmd_write h), commandCode_cases r.cmd⟩,
    rfl, rfl⟩

/-- Settles O2: the rows one by one, and the reserved codes as a range. -/
theorem seqCodesDecode : Obligations.SeqCodesDecode :=
  ⟨by decide, by decide, by decide, decodeUop_eq_reservedCode_iff⟩

/-- Settles O3: a micro-operation through its row of the table, a command or a driver state by its own code. -/
theorem decodeOfEncodeIsTheInstruction : Obligations.DecodeOfEncodeIsTheInstruction := by
  intro i
  by_cases h : i.format = .uop
  · exact decode_encode_of_uop h
  · cases i
    case none | acquire | bringup | write | drvInit | drvRun => rfl
    all_goals exact absurd rfl h

/-- Settles O9: the codes the statement lists are those the decoder reserves, and the fetch refuses them. -/
theorem reservedSeqCodeIsRefused : Obligations.ReservedSeqCodeIsRefused := by
  intro s hc hseq hp
  have hcode := (decodeUop_eq_reservedCode_iff s.seq).mpr hseq
  have hfetch : s.nextChoice.2.fetch = .reserved := State.fetch_of_reserved (by simpa using hcode)
  rw [step_proceed hc (Prod.ext hp rfl), proceed, hfetch]

end Sys2Proof
end

section
/-! PROOFS. The family on commands: what the machine does when the environment lets it move (a micro-operation, a command, or
nothing), the acceptance of BRINGUP and WRITE case by case, and the poll of a channel that is not enabled. -/

namespace Sys2Proof

/-- Only the empty sequence has no word to push (R130). -/
theorem wordCount_length_eq_zero_iff (bytes : List Byte) : wordCount bytes.length = 0 ↔ bytes = [] := by
  rw [← Nat.le_zero, wordCount_le_iff, Nat.mul_zero, Nat.le_zero, List.length_eq_zero_iff]

namespace Machine

variable {s : State}

/-! ## The environment's choice and the move of the machine (R150) -/

/-- A choice uses up the head of the list, or a free value; the rest of the state stays. -/
theorem State.nextChoice_snd_eq (s : State) :
    s.nextChoice.2 = { s with env := s.env.tail, fresh := s.nextChoice.2.fresh } := by
  rw [State.nextChoice]
  cases henv : s.env with
  | nil => simp [State.useFresh, henv]
  | cons e rest => rfl

/-- No free value is used while the list lasts. -/
theorem State.nextChoice_fresh (h : s.env ≠ []) : s.nextChoice.2.fresh = s.fresh := by
  obtain ⟨e, rest, henv⟩ := List.exists_cons_of_ne_nil h
  rw [State.nextChoice_cons henv]

section Move

variable (hc : s.cfg.ok = true) (hp : s.nextChoice.1 = .proceed)
include hc hp

/-- At a micro-operation's code the move is that operation, in the state the choice leaves. -/
theorem step_of_code {i : Instr} (hi : decodeUop s.seq = .ok i) : step s = exec i s.nextChoice.2 := by
  have hfetch : s.nextChoice.2.fetch = .run i s.nextChoice.2 := State.fetch_of_code (by rwa [State.nextChoice_seq])
  rw [step_proceed hc (Prod.ext hp rfl), proceed, hfetch]

/-- At IDLE, without a fault, the move is the command source's action. -/
theorem step_of_idle (hs : s.seq = Seq.idle) (hf : s.fault = false) :
    step s = exec s.nextChoice.2.fetchCommand.1 s.nextChoice.2.fetchCommand.2 := by
  have hfetch := State.fetch_of_idle (s := s.nextChoice.2) (by rwa [State.nextChoice_seq]) (by rwa [State.nextChoice_fault])
  rw [step_proceed hc (Prod.ext hp rfl), proceed, hfetch]

/-- At HALT there is no move (log entry 12). -/
theorem step_of_halt (hs : s.seq = Seq.halt) : step s = .fault .halted := by
  have hfetch : s.nextChoice.2.fetch = .nothing := State.fetch_of_halt (by rwa [State.nextChoice_seq])
  rw [step_proceed hc (Prod.ext hp rfl), proceed, hfetch]

end Move

/-! ## The command source (R7, R154, R220) -/

theorem State.fetchCommand_driver (h : s.source = .driver) : s.fetchCommand = (decodeDrv s.dstate, s) := by
  simp [State.fetchCommand, h]

theorem State.fetchCommand_host_cons {r : CommandRecord} {rest : List CommandRecord} (h : s.source = .host (r :: rest)) :
    s.fetchCommand = (decodeCmd r, { s with source := .host rest }) := by
  simp [State.fetchCommand, h]

theorem State.fetchCommand_host_nil (h : s.source = .host []) : s.fetchCommand = (.none, s) := by
  simp [State.fetchCommand, h]

/-! ## The acceptance of BRINGUP and WRITE (R152, R153) -/

theorem State.acceptBringup_not_owned (ho : s.owned = false) (f : Word) : s.acceptBringup f = .refused .noHandle := by
  simp [State.acceptBringup, ho]

theorem State.acceptBringup_at_most_baud (ho : s.owned = true) {f : Word} (hf : f.toNat ≤ s.cfg.targetBaudHz) :
    s.acceptBringup f = .refused .clockOutOfRange := by
  simp [State.acceptBringup, ho, hf]

theorem State.acceptBringup_above_baud (ho : s.owned = true) {f : Word} (hf : s.cfg.targetBaudHz < f.toNat) :
    s.acceptBringup f = .next ((s.latchClock f (s.cfg.divisor f)).setSeq Seq.bu01) := by
  simp [State.acceptBringup, ho, hf]

variable {ch : Chan} {bytes : List Byte}

theorem State.acceptWrite_not_owned (ho : s.owned = false) : s.acceptWrite ch bytes = .refused .noHandle := by
  simp [State.acceptWrite, ho]

theorem State.acceptWrite_bad_channel (ho : s.owned = true) (hch : s.cfg.nChannels ≤ ch.toNat) :
    s.acceptWrite ch bytes = .refused .badChannel := by
  simp [State.acceptWrite, ho, hch]

/-- With nothing to push, whether the channel is enabled decides. -/
theorem State.acceptWrite_nil (ho : s.owned = true) (hch : ch.toNat < s.cfg.nChannels) :
    s.acceptWrite ch [] =
      if s.channelEnabled ch then .next ((s.latchWrite ch []).setSeq Seq.idle) else .refused .channelNotEnabled := by
  simp [State.acceptWrite, ho, hch, wordCount]

/-- With a word to push, WRITE is accepted whether or not the channel is enabled (log entry 11). -/
theorem State.acceptWrite_of_ne_nil (ho : s.owned = true) (hch : ch.toNat < s.cfg.nChannels) (hb : bytes ≠ []) :
    s.acceptWrite ch bytes = .next ((s.latchWrite ch bytes).setSeq Seq.wrPoll) := by
  simp [State.acceptWrite, ho, hch, wordCount_length_eq_zero_iff, hb]

/-! ## The poll of a channel that is not enabled (R56, R87, R201) -/

theorem State.ready_of_not_enabled (h : s.channelEnabled ch = false) : s.ready ch = false := by
  simp [State.ready, h]

/-- The port is never ready, so the poll answers with another poll. -/
theorem State.Inv.poll_of_not_enabled (h : s.Inv) (hen : s.channelEnabled s.ch = false) :
    s.poll = .next ((s.useFresh.log ⟨.rd, s.cfg.stimAddr s.ch, s.statusWord s.ch⟩).setSeq Seq.wrPoll) := by
  simp [s.poll_eq h.cfgOk h.writeSound.1, State.ready_of_not_enabled hen]

/-- The machine's own step from such a poll is that poll, in the state the choice leaves. -/
theorem State.Inv.step_of_poll_not_enabled (h : s.Inv) (hs : s.seq = Seq.wrPoll) (hen : s.channelEnabled s.ch = false)
    (hp : s.nextChoice.1 = .proceed) :
    Machine.step s = .next ((s.nextChoice.2.useFresh.log
      ⟨.rd, s.cfg.stimAddr s.ch, s.nextChoice.2.statusWord s.ch⟩).setSeq Seq.wrPoll) := by
  have hstep : Machine.step s = s.nextChoice.2.poll := step_of_code h.cfgOk hp (i := .wrPoll) (by rw [hs]; decide)
  have hinv : s.nextChoice.2.Inv := h.of_sameCore s.sameCore_nextChoice
  have henabled : s.nextChoice.2.channelEnabled s.nextChoice.2.ch = false := by
    rwa [State.channelEnabled_congr (s := s) (by simp) (by simp), State.nextChoice_ch]
  rw [hstep, hinv.poll_of_not_enabled henabled, State.nextChoice_cfg, State.nextChoice_ch]

/-! ## The driver's WRITE (R222) -/

/-- The driver's payload is never empty, so its WRITE is accepted whether or not channel 0 is enabled. -/
theorem exec_drvRun_write (hph : s.dphase = 0#1) (ho : s.owned = true) (hch : (0#5).toNat < s.cfg.nChannels) :
    exec .drvRun s =
      .next (((s.latchWrite 0#5 (s.cfg.payloadBytes s.cnt)).setSeq Seq.wrPoll).setDriver s.dstate 1#1) := by
  have hpayload : s.cfg.payloadBytes s.cnt ≠ [] := by simp [Cfg.payloadBytes]
  simp [exec, execDrvRun, hph, State.acceptWrite_of_ne_nil ho hch hpayload, onNext]

end Machine

open Machine

/-! ## The obligations -/

/-- Settles O17: with bytes the acceptance does not ask whether the channel is enabled, and each poll then finds the port not
ready and leaves the channel as it was. -/
theorem writeToADisabledChannelNeverPushes : Obligations.WriteToADisabledChannelNeverPushes := by
  refine ⟨fun s ch bytes ho hch hen => ⟨State.acceptWrite_of_ne_nil ho hch, ?_⟩, fun s h hs hen hp => ?_,
    fun s hph ho hch _ => exec_drvRun_write hph ho hch⟩
  · rintro rfl
    exact (State.acceptWrite_nil ho hch).trans (if_neg (Bool.eq_false_iff.mp hen))
  · refine ⟨_, h.step_of_poll_not_enabled hs hen hp, rfl, s.nextChoice_ch, s.nextChoice_idx, s.nextChoice_regs,
      s.nextChoice_fifo, s.nextChoice_emit, ?_⟩
    rw [State.channelEnabled_congr (s := s) (by simp) (by simp)]
    simpa using hen

/-- Settles O5: the choice leaves SEQ as it is, and the fetch finds the micro-operation there. -/
theorem stepRunsTheMicroOperationSeqNames : Obligations.StepRunsTheMicroOperationSeqNames := by
  intro s u i hc hn hi
  obtain ⟨hp, rfl⟩ := Prod.ext_iff.mp hn
  exact ⟨step_of_code hc hp hi, s.nextChoice_snd_eq, State.nextChoice_fresh⟩

/-- Settles O6: the choice leaves the command source as it is, and the fetch takes the source's next action. -/
theorem stepPresentsTheSourcesCommand : Obligations.StepPresentsTheSourcesCommand := by
  intro s u hc hn hs hf
  obtain ⟨hp, rfl⟩ := Prod.ext_iff.mp hn
  have hstep := step_of_idle hc hp hs hf
  refine ⟨fun hsrc => ?driver, fun r rest hsrc => ?record, fun hsrc => ?noRecord⟩
  case driver =>
    rw [hstep, State.fetchCommand_driver (s.nextChoice_source.trans hsrc), State.nextChoice_dstate]
  case record => rw [hstep, State.fetchCommand_host_cons (s.nextChoice_source.trans hsrc)]
  case noRecord =>
    rw [hstep, State.fetchCommand_host_nil (s.nextChoice_source.trans hsrc)]
    rfl

/-- Settles O7: nothing is fetched from HALT. -/
theorem neitherControllerNorDriverMovesFromHalt : Obligations.NeitherControllerNorDriverMovesFromHalt :=
  fun _ hc hs hp => step_of_halt hc hp hs

/-- Settles O12: NONE answers the state it was given. -/
theorem noneChangesNothing : Obligations.NoneChangesNothing :=
  fun _ => rfl

/-- Settles O13: the grant while OWNED is 0, the fault entry while it is 1. -/
theorem acquireIsTakeOnce : Obligations.AcquireIsTakeOnce :=
  fun s => ⟨fun ho => s.acquire_eq.trans (if_neg (Bool.eq_false_iff.mp ho)),
    fun ho => s.acquire_eq.trans (if_pos ho)⟩

/-- Settles O14: one lemma for each outcome of the acceptance. -/
theorem bringupIsAcceptedAboveTheBaud : Obligations.BringupIsAcceptedAboveTheBaud :=
  fun _ f => ⟨fun ho => State.acceptBringup_above_baud ho, fun ho => State.acceptBringup_not_owned ho f,
    fun ho => State.acceptBringup_at_most_baud ho⟩

/-- Settles O16: on an enabled channel the sequence alone decides where SEQ goes. -/
theorem writeIsAcceptedOnAnEnabledChannel : Obligations.WriteIsAcceptedOnAnEnabledChannel := by
  refine fun s ch bytes => ⟨fun ho hch hen => ?_, State.acceptWrite_not_owned, State.acceptWrite_bad_channel⟩
  by_cases hb : bytes = []
  · subst hb
    exact (State.acceptWrite_nil ho hch).trans (if_pos hen)
  · rw [if_neg hb]
    exact State.acceptWrite_of_ne_nil ho hch hb

end Sys2Proof
end

section
/-! PROOFS. The family on the bring-up sequence, first part: the masks of a read-modify-write, each bring-up operation with its
whole next state. -/

namespace Sys2Proof

open Machine (BusReg StorageReg Block)

/-! ## Masks -/

/-- Bits that have been set are found set. -/
theorem or_and_mask (x m : Word) : (x ||| m) &&& m = m := by
  ext i hi
  simpa using Or.inr

/-- Bits that have been cleared are found cleared, in every part of the mask. -/
theorem and_not_and_eq_zero (x : Word) {m k : Word} (h : k &&& ~~~m = 0#32) : x &&& ~~~m &&& k = 0#32 := by
  rw [BitVec.and_assoc, BitVec.and_comm (~~~m), h, BitVec.and_zero]

/-- Setting bits outside a field leaves the field as it is. -/
theorem or_and_of_disjoint (x : Word) {m k : Word} (h : m &&& k = 0#32) : (x ||| m) &&& k = x &&& k := by
  rw [BitVec.and_or_distrib_right, h, BitVec.or_zero]

/-- R9 (g) for DBGEN_TRACE_MASK. -/
theorem Cfg.traceMask_ne_zero {c : Cfg} (h : c.ok = true) : c.dbgenTraceMask ≠ 0#32 := by
  obtain ⟨k, hk, e⟩ := (c.ok_iff_meetsR9.mp h).oneBit c.dbgenTraceMask List.mem_cons_self
  rw [e, BitVec.toNat_ne, BitVec.toNat_twoPow_of_lt hk]
  exact Nat.two_pow_pos k |>.ne'

/-- The divisor is 0 exactly below twice the baud (R128, R174). -/
theorem Cfg.divisor_eq_zero_iff {c : Cfg} (hc : c.ok = true) (f : Word) :
    c.divisor f = 0#32 ↔ f.toNat < 2 * c.targetBaudHz := by
  obtain ⟨hbaud, -⟩ := Cfg.sizes_of_ok hc
  rw [BitVec.toNat_eq, Cfg.divisor_toNat, BitVec.toNat_zero, Nat.sub_eq_zero_iff_le, ← Nat.lt_succ_iff,
    Nat.div_lt_iff_lt_mul hbaud]

/-- The largest divisor comes from the largest clock at a baud of 1. -/
theorem Cfg.divisor_le {c : Cfg} (f : Word) : (c.divisor f).toNat ≤ 2 ^ 32 - 2 := by
  have hdiv : f.toNat / c.targetBaudHz ≤ f.toNat := Nat.div_le_self _ _
  rw [Cfg.divisor_toNat]
  omega

namespace Machine

variable {s : State}

/-! ## The classes of operation at a register of a block and at an unprotected one (R84 to R86) -/

/-- A register of a block takes the write when the gate is open and the block unlocked. -/
theorem State.regs_of_protected {r : StorageReg} {b : Block} (hb : r.block = some b) (v : Word) :
    (if s.storageWritable r then s.regs.set r v else s.regs) =
      if s.gate ∧ s.locks.get b = false then s.regs.set r v else s.regs :=
  if_congr (Eq.to_iff (s.storageWritable_iff r b hb)) rfl rfl

section Classes

variable (hc : s.cfg.ok = true) {r : StorageReg} {b : Block} (n : BitVec 5)
include hc

theorem State.writeThen_protected (hb : r.block = some b) (v : Word) :
    s.writeThen (s.cfg.addrOf (.storage r)) v n = .next { s with
      trace := s.trace ++ [⟨.wr, s.cfg.addrOf (.storage r), v⟩]
      regs := if s.gate ∧ s.locks.get b = false then s.regs.set r v else s.regs
      seq := n } := by
  rw [s.writeThen_storage hc, State.regs_of_protected hb]

theorem State.modifyThen_protected (hb : r.block = some b) (f : Word → Word) :
    s.modifyThen (s.cfg.addrOf (.storage r)) f n = .next { s with
      trace := s.trace ++
        [⟨.rd, s.cfg.addrOf (.storage r), s.regs.get r⟩, ⟨.wr, s.cfg.addrOf (.storage r), f (s.regs.get r)⟩]
      regs := if s.gate ∧ s.locks.get b = false then s.regs.set r (f (s.regs.get r)) else s.regs
      seq := n } := by
  rw [s.modifyThen_storage hc, State.regs_of_protected hb]

/-- DBGEN and DBGCTL take every write (R84). -/
theorem State.modifyThen_unprotected (hb : r.block = none) (f : Word → Word) :
    s.modifyThen (s.cfg.addrOf (.storage r)) f n = .next { s with
      trace := s.trace ++
        [⟨.rd, s.cfg.addrOf (.storage r), s.regs.get r⟩, ⟨.wr, s.cfg.addrOf (.storage r), f (s.regs.get r)⟩]
      regs := s.regs.set r (f (s.regs.get r))
      seq := n } := by
  have hw : s.storageWritable r = true := by simp [State.storageWritable, hb]
  rw [s.modifyThen_storage hc, if_pos hw]

end Classes

/-! ## What an operation's row makes of its register, and where SEQ goes (R123, R171 to R184) -/

/-- The value a bring-up operation writes to the register of its row, from the value it finds there. -/
def rowValue (c : Cfg) (div : Word) (i : Instr) (old : Word) : Word :=
  match i with
  | .bu01 => old ||| c.dbgenTraceMask
  | .bu03 => c.fmtWidth1Bit
  | .bu04 => div
  | .bu05 => c.fmtModeValue
  | .bu06 => old &&& ~~~c.fmtContMask
  | .bu08 => c.syncCtrlValue
  | .bu10 => c.itmPrivValue
  | .bu11 => c.itmCtrlValue
  | .bu12 => channelZeroMask
  | .bu13 => old &&& ~~~c.dbgctlClearMask
  | .bu14 => old ||| c.dbgctlSet
  | _ => old

/-- The code a bring-up operation leaves in SEQ. -/
def seqAfter : Instr → BitVec 5
  | .bu01 => Seq.bu02
  | .bu02 => Seq.bu03
  | .bu03 => Seq.bu04
  | .bu04 => Seq.bu05
  | .bu05 => Seq.bu06
  | .bu06 => Seq.bu07
  | .bu07 => Seq.bu08
  | .bu08 => Seq.bu09
  | .bu09 => Seq.bu10
  | .bu10 => Seq.bu11
  | .bu11 => Seq.bu12
  | .bu12 => Seq.bu13
  | .bu13 => Seq.bu14
  | _ => Seq.idle

/-- A bring-up operation has a storage register in its row or unlocks a block. -/
theorem bringUpOps_cases {i : Instr} (hi : i ∈ bringUpOps) :
    (∃ r, storageOf i = some r) ∨ ∃ b, i = unlockOp b := by
  cases i
  case bu02 => exact .inr ⟨.fmt, rfl⟩
  case bu07 => exact .inr ⟨.sync, rfl⟩
  case bu09 => exact .inr ⟨.itm, rfl⟩
  case bu01 | bu03 | bu04 | bu05 | bu06 | bu08 | bu10 | bu11 | bu12 | bu13 | bu14 => exact .inl ⟨_, rfl⟩
  all_goals simp [bringUpOps] at hi

theorem lockOf_unlockOp (b : Block) : lockOf (unlockOp b) = some b := by cases b <;> rfl

/-- An operation with a storage register in its row overwrites it, or reads it and writes it back changed. -/
theorem exec_storage_class (s : State) {i : Instr} {r : StorageReg} (hr : storageOf i = some r) :
    exec i s = s.modifyThen (s.cfg.addrOf (.storage r)) (rowValue s.cfg s.div i) (seqAfter i) ∨
      exec i s = s.writeThen (s.cfg.addrOf (.storage r)) (rowValue s.cfg s.div i (s.regs.get r)) (seqAfter i) := by
  cases i
  case bu01 | bu06 | bu13 | bu14 => cases hr; exact .inl rfl
  case bu03 | bu04 | bu05 | bu08 | bu10 | bu11 | bu12 => cases hr; exact .inr rfl
  all_goals cases hr

/-- It records its transactions and replaces that register, where it is writable. -/
theorem exec_of_storageOf (hc : s.cfg.ok = true) {i : Instr} {r : StorageReg} (hr : storageOf i = some r) :
    ∃ new, exec i s = .next { s with
      trace := s.trace ++ new
      regs := if s.storageWritable r then s.regs.set r (rowValue s.cfg s.div i (s.regs.get r)) else s.regs
      seq := seqAfter i } := by
  obtain e | e := exec_storage_class s hr
  · exact ⟨_, e.trans (s.modifyThen_storage hc r _ _)⟩
  · exact ⟨_, e.trans (s.writeThen_storage hc r _ _)⟩

/-- An unlock operation records its write and clears the block's flag, when the gate is open. -/
theorem exec_unlockOp (hc : s.cfg.ok = true) (b : Block) :
    ∃ new, exec (unlockOp b) s = .next { s with
      trace := s.trace ++ new
      locks := if s.gate then s.locks.set b false else s.locks
      seq := seqAfter (unlockOp b) } := by
  have e : exec (unlockOp b) s = s.writeThen (s.cfg.addrOf (.unlock b)) s.cfg.key (seqAfter (unlockOp b)) := by
    cases b <;> rfl
  exact ⟨_, e.trans (s.writeThen_unlock hc b _)⟩

end Machine

open Machine

/-! ## The obligations on single operations -/

/-- Settles O18: DBGEN takes every write, and what is written holds the mask's one bit. -/
theorem globalTraceEnableIsOredIn : Obligations.GlobalTraceEnableIsOredIn := by
  intro s hc v t
  have htrace : t.traceEnabled = true := by
    have hv : v &&& s.cfg.dbgenTraceMask ≠ 0#32 := by
      rw [or_and_mask]
      exact Cfg.traceMask_ne_zero hc
    simpa [State.traceEnabled] using hv
  refine ⟨State.modifyThen_unprotected hc (r := .dbgen) _ rfl _, htrace, ?_⟩
  rw [State.gate, htrace, Bool.or_true]

/-- Settles O19: each is the write of KEY at its block's unlock register. -/
theorem unlockOperationsWriteTheKey : Obligations.UnlockOperationsWriteTheKey :=
  fun s hc => ⟨s.writeThen_unlock hc .fmt _, s.writeThen_unlock hc .sync _, s.writeThen_unlock hc .itm _⟩

/-- Settles O20: each is a write at a register of its block. -/
theorem constantOverwritesOfTheBlocks : Obligations.ConstantOverwritesOfTheBlocks :=
  fun _ hc =>
    ⟨State.writeThen_protected hc (r := .fmtWidth) _ rfl _, State.writeThen_protected hc (r := .fmtMode) _ rfl _,
      State.writeThen_protected hc (r := .syncCtrl) _ rfl _, State.writeThen_protected hc (r := .itmPriv) _ rfl _,
      State.writeThen_protected hc (r := .itmCtrl) _ rfl _, State.writeThen_protected hc (r := .itmChen) _ rfl _⟩

/-- Settles O21: the write is one at a register of the formatter, and the invariant says which clock DIV is the divisor of. -/
theorem divisorRegisterTakesDiv : Obligations.DivisorRegisterTakesDiv := by
  refine ⟨fun s hc => State.writeThen_protected hc (r := .fmtDiv) _ rfl _, fun s h hheld => ?_⟩
  obtain ⟨-, hdiv⟩ := h.divSound hheld
  rw [hdiv]
  exact ⟨Cfg.divisor_le s.clk, Cfg.divisor_eq_zero_iff h.cfgOk s.clk⟩

/-- Settles O22: FMT_FRAME is a register of the formatter, DBGCTL takes every write. -/
theorem flagClearsReadModifyWrite : Obligations.FlagClearsReadModifyWrite :=
  fun _ hc => ⟨State.modifyThen_protected hc (r := .fmtFrame) _ rfl _, State.modifyThen_unprotected hc (r := .dbgctl) _ rfl _⟩

/-- Settles O23: the IOEN bit is outside the mode field, which BU13 has cleared (R9 (f)). -/
theorem traceIoEnableEndsTheBringup : Obligations.TraceIoEnableEndsTheBringup := by
  intro s hc d
  have h9 := s.cfg.ok_iff_meetsR9.mp hc
  have hmode := or_and_of_disjoint (m := s.cfg.dbgctlIoenMask) (k := s.cfg.dbgctlModeMask) (h := h9.ioenApart)
  refine ⟨State.modifyThen_unprotected hc (r := .dbgctl) _ rfl _, hmode _, fun t ht => ?_⟩
  cases (State.modifyThen_unprotected hc (r := .dbgctl) _ rfl _).symm.trans ht
  exact (hmode _).trans (and_not_and_eq_zero _ h9.modeInClear)

end Sys2Proof
end

section
/-! PROOFS. The family on the bring-up sequence, second part: the frame of the micro-operations, and what no step closes or locks
again. -/

namespace Sys2Proof.Machine

variable {s t u : State}

/-! ## The frame of a micro-operation (R123, R170, R208) -/

/-- Nothing moves but SEQ, IDX, TRACE, the counter of free values and the target's registers, lock flags and queues. -/
def State.MicroFrame (s t : State) : Prop :=
  t = { s with
    seq := t.seq, idx := t.idx, fresh := t.fresh, regs := t.regs, locks := t.locks, fifo := t.fifo, trace := t.trace }

theorem State.MicroFrame.trans (h : s.MicroFrame t) (k : t.MicroFrame u) : s.MicroFrame u := by
  rw [State.MicroFrame, k, h]

theorem State.microFrame_targetWrite (s : State) (r : BusReg) (v : Word) : s.MicroFrame (s.targetWrite r v) := by
  cases r <;> simp only [State.targetWrite] <;> split <;> rfl

theorem State.microFrame_targetRead (s : State) (r : BusReg) (x : BusTxn) : s.MicroFrame ((s.targetRead r).2.log x) := by
  cases r <;> rfl

/-- A recorded write and the target's reaction to it. -/
theorem State.microFrame_write (s : State) (x : BusTxn) (r : BusReg) (v : Word) :
    s.MicroFrame ((s.log x).targetWrite r v) :=
  State.MicroFrame.trans (t := s.log x) rfl (State.microFrame_targetWrite _ r v)

/-- A micro-operation stays within the frame, whatever its address reaches. -/
theorem exec_microFrame {i : Instr} (hi : i.format = .uop) (ht : exec i s = .next t) : s.MicroFrame t := by
  obtain hi' | rfl | rfl | hi' := i.class_cases
  · obtain ⟨a, n, -, ⟨v, e⟩ | ⟨f, e⟩⟩ := exec_bringup s hi'
    · obtain ⟨r, -, rfl⟩ := State.writeThen_next (e.symm.trans ht)
      exact (s.microFrame_write _ r v).trans rfl
    · obtain ⟨r, -, rfl⟩ := State.modifyThen_next (e.symm.trans ht)
      exact (s.microFrame_targetRead r _).trans ((State.microFrame_write _ _ r _).trans rfl)
  · obtain ⟨r, n, -, rfl⟩ := State.poll_next ht
    exact (s.microFrame_targetRead r _).trans rfl
  · obtain ⟨r, n, -, rfl⟩ := State.push_next ht
    exact (s.microFrame_write _ r _).trans rfl
  · exact absurd hi hi'

theorem exec_bringup_format {i : Instr} (hi : i ∈ bringUpOps) : i.format = .uop := by
  have hrows : ∀ i ∈ bringUpOps, i.format = .uop := by decide
  exact hrows i hi

/-- Only the push moves IDX (R202). -/
theorem exec_keeps_idx {i : Instr} (hi : i.format = .uop) (hpush : i ≠ .wrPush) (ht : exec i s = .next t) : t.idx = s.idx := by
  obtain hi' | rfl | rfl | hi' := i.class_cases
  · obtain ⟨a, n, -, ⟨v, e⟩ | ⟨f, e⟩⟩ := exec_bringup s hi'
    · obtain ⟨r, -, rfl⟩ := State.writeThen_next (e.symm.trans ht)
      simp
    · obtain ⟨r, -, rfl⟩ := State.modifyThen_next (e.symm.trans ht)
      simp
  · obtain ⟨r, n, -, rfl⟩ := State.poll_next ht
    simp
  · exact absurd rfl hpush
  · exact absurd hi hi'

/-- What a micro-operation leaves alone of the target: every storage register but its row's, every lock flag but its row's,
every queue but the push's. -/
structure State.KeepsTargetBut (s t : State) (i : Instr) : Prop where
  regs : ∀ r, storageOf i ≠ some r → t.regs.get r = s.regs.get r
  locks : ∀ b, lockOf i ≠ some b → t.locks.get b = s.locks.get b
  fifo : ∀ c, (i = .wrPush → c ≠ s.ch) → t.fifoAt c = s.fifoAt c

theorem exec_bringup_keepsTarget {i : Instr} (hc : s.cfg.ok = true) (hi : i ∈ bringUpOps) (ht : exec i s = .next t) :
    s.KeepsTargetBut t i := by
  obtain ⟨r, hr⟩ | ⟨b, rfl⟩ := bringUpOps_cases hi
  · obtain ⟨new, e⟩ := exec_of_storageOf hc hr
    cases e.symm.trans ht
    refine ⟨fun q hq => ?_, fun _ _ => rfl, fun _ _ => rfl⟩
    have hne : q ≠ r := fun e => hq (by rw [hr, e])
    cases s.storageWritable r <;> simp [TargetRegs.get_set_ne _ _ _ _ hne]
  · obtain ⟨new, e⟩ := exec_unlockOp hc b
    cases e.symm.trans ht
    refine ⟨fun _ _ => rfl, fun c hcb => ?_, fun _ _ => rfl⟩
    have hne : c ≠ b := fun e => hcb (by rw [lockOf_unlockOp, e])
    cases s.gate <;> simp [LockFlags.get_set_ne _ _ _ _ hne]

theorem poll_keepsTarget (ht : s.poll = .next t) : s.KeepsTargetBut t .wrPoll := by
  obtain ⟨r, n, -, rfl⟩ := State.poll_next ht
  exact ⟨fun _ _ => by simp, fun _ _ => by simp, fun c _ => State.fifoAt_congr (by simp) c⟩

theorem push_keepsTarget (hc : s.cfg.ok = true) (hch : s.ch.toNat < s.cfg.nChannels) (ht : s.push = .next t) :
    s.KeepsTargetBut t .wrPush := by
  rw [s.push_eq hc hch] at ht
  cases ht
  refine ⟨fun r _ => ?_, fun b _ => ?_, fun c hne => ?_⟩
  · exact State.targetWrite_get_ne _ _ _ r BusReg.noConfusion
  · simp [State.targetWrite_port]
  · exact State.targetWrite_fifoAt_ne _ _ _ c fun e => hne rfl (BusReg.port.inj e).symm

theorem exec_keepsTarget {i : Instr} (hc : s.cfg.ok = true) (hi : i.format = .uop)
    (hch : i = .wrPush → s.ch.toNat < s.cfg.nChannels) (ht : exec i s = .next t) : s.KeepsTargetBut t i := by
  obtain hi' | rfl | rfl | hi' := i.class_cases
  · exact exec_bringup_keepsTarget hc hi' ht
  · exact poll_keepsTarget ht
  · exact push_keepsTarget hc (hch rfl) ht
  · exact absurd hi hi'

/-! ## The gate and the lock flags only open (R171, R83, R188) -/

/-- What is open in `s` is open in `t`, under the same configuration. -/
structure State.Opens (s t : State) : Prop where
  cfg : t.cfg = s.cfg
  trace : s.traceEnabled = true → t.traceEnabled = true
  locks : ∀ b, s.locks.get b = false → t.locks.get b = false

/-- The gate is open where nothing is gated, or trace is enabled (R56). -/
theorem State.gate_iff (s : State) : s.gate = true ↔ s.cfg.traceEnGating = false ∨ s.traceEnabled = true := by
  simp [State.gate]

theorem State.Opens.gate (h : s.Opens t) (hg : s.gate = true) : t.gate = true := by
  rw [State.gate_iff, h.cfg]
  exact (s.gate_iff.mp hg).imp_right h.trace

theorem State.traceEnabled_congr (hc : t.cfg = s.cfg) (hd : t.regs.dbgen = s.regs.dbgen) : t.traceEnabled = s.traceEnabled := by
  rw [State.traceEnabled, hc, hd, State.traceEnabled]

/-- A state with the same registers and lock flags closes nothing. -/
theorem State.Opens.of_eq (hc : t.cfg = s.cfg) (hr : t.regs = s.regs) (hl : t.locks = s.locks) : s.Opens t :=
  ⟨hc, fun h => (State.traceEnabled_congr hc (by rw [hr])).trans h, fun b h => by rwa [hl]⟩

/-- BU01 alone has DBGEN in its row. -/
theorem eq_bu01_of_storageOf {i : Instr} (h : storageOf i = some .dbgen) : i = .bu01 := by
  cases i
  case bu01 => rfl
  all_goals cases h

/-- A block has one unlock operation. -/
theorem eq_unlockOp_of_lockOf {i : Instr} {b : Block} (h : lockOf i = some b) : i = unlockOp b := by
  cases i
  case bu02 | bu07 | bu09 => cases h; rfl
  all_goals cases h

/-- BU01 opens the gate, an unlock operation opens its block, and nothing else touches DBGEN or a lock flag. -/
theorem exec_opens {i : Instr} (hc : s.cfg.ok = true) (hi : i.format = .uop)
    (hch : i = .wrPush → s.ch.toNat < s.cfg.nChannels) (ht : exec i s = .next t) : s.Opens t := by
  have hkeeps := exec_keepsTarget hc hi hch ht
  have hcfg : t.cfg = s.cfg := (exec_keeps_inputs ht).1
  refine ⟨hcfg, fun h => ?_, fun b h => ?_⟩
  · by_cases hd : storageOf i = some .dbgen
    · obtain ⟨e, hon, -⟩ := globalTraceEnableIsOredIn s hc
      cases eq_bu01_of_storageOf hd
      cases e.symm.trans ht
      exact hon
    · exact (State.traceEnabled_congr hcfg (hkeeps.regs .dbgen hd)).trans h
  · by_cases hb : i = unlockOp b
    · obtain ⟨new, e⟩ := exec_unlockOp hc b
      rw [hb] at ht
      cases e.symm.trans ht
      cases s.gate <;> simp [h]
    · rw [hkeeps.locks b fun hl => hb (eq_unlockOp_of_lockOf hl), h]

/-- A code of SEQ that decodes names a micro-operation. -/
theorem format_of_decodeUop {i : Instr} (h : decodeUop s.seq = .ok i) : i.format = .uop := by
  obtain ⟨-, hi⟩ | ⟨-, rfl⟩ | ⟨-, rfl⟩ := decodeUop_cases h
  · exact exec_bringup_format hi
  · rfl
  · rfl

/-- The machine's own step closes nothing: a command leaves the target alone. -/
theorem State.Inv.proceed_opens (h : s.Inv) (ht : Machine.proceed s = .next t) : s.Opens t := by
  obtain ⟨-, he⟩ | ⟨-, i, hi, he⟩ := proceed_next ht
  · have hsame := s.sameTarget_fetchCommand.trans (exec_command_sameTarget s.fetchCommand_format he)
    exact .of_eq hsame.cfg hsame.regs hsame.locks
  · exact exec_opens h.cfgOk (format_of_decodeUop hi) (fun _ => h.writeSound.1) he

theorem State.Opens.trans (h : s.Opens t) (k : t.Opens u) : s.Opens u :=
  ⟨k.cfg.trans h.cfg, k.trace ∘ h.trace, fun b => k.locks b ∘ h.locks b⟩

/-- Every step but a reset closes nothing. -/
theorem State.Inv.step_opens (h : s.Inv) (hr : s.noResetNext) (ht : Machine.step s = .next t) : s.Opens t := by
  obtain ⟨-, ⟨-, hp⟩ | ⟨ch, -, rfl⟩ | ⟨hreset, -⟩⟩ := step_next ht
  · have hchoice : s.Opens s.nextChoice.2 := .of_eq (by simp) (by simp) (by simp)
    exact hchoice.trans ((h.of_sameCore s.sameCore_nextChoice).proceed_opens hp)
  · exact .of_eq (by simp) (by simp) (by simp)
  · exact absurd hreset hr

end Sys2Proof.Machine

namespace Sys2Proof

open Machine

/-- Settles O54: written as its frame, the next state has the first eighteen fields by definition; the rest is the one register,
lock flag or queue that the operation's row names. -/
theorem microOperationsLeaveControllerAndDriverAlone : Obligations.MicroOperationsLeaveControllerAndDriverAlone := by
  intro i s t hi ht
  have hidx : i ≠ .wrPush → t.idx = s.idx := fun hpush => exec_keeps_idx hi hpush ht
  have htarget := fun hc hch => exec_keepsTarget (i := i) hc hi hch ht
  rw [exec_microFrame hi ht] at hidx htarget ⊢
  exact ⟨rfl, rfl, rfl, rfl, rfl, rfl, rfl, rfl, rfl, rfl, rfl, rfl, rfl, rfl, rfl, rfl, rfl, rfl, hidx,
    fun hc hch => ⟨(htarget hc hch).regs, (htarget hc hch).locks, (htarget hc hch).fifo⟩⟩

/-- Settles O52: BU01 opens the gate, an unlock operation its block, and no other step but a reset touches either. -/
theorem gateAndLocksOnlyOpen : Obligations.GateAndLocksOnlyOpen := by
  intro s t h hr ht
  have hopens := h.step_opens hr ht
  exact ⟨hopens.trace, hopens.gate, hopens.locks⟩

end Sys2Proof
end

section
/-! PROOFS. The family on the bring-up sequence, third part: what a sequence of bring-up operations makes of the registers and
lock flags, as a function folded over the operations; the same result when they are executed one after the other and under a
schedule with drains; and its value for the whole sequence and for the shortened ones (R185 to R187). -/

namespace Sys2Proof.Machine

variable {s t u : State} {c : Cfg} {d : Word} {ops : List Instr}

/-! ## The effect of a sequence on registers and lock flags -/

/-- Gate, from the value of DBGEN (R56). -/
def gateAt (c : Cfg) (dbgen : Word) : Bool := !c.traceEnGating || (dbgen &&& c.dbgenTraceMask) != 0

/-- Whether a storage register takes a write, from the gate and the lock flags (R84 to R86). -/
def writableAt (g : Bool) (l : LockFlags) (r : StorageReg) : Bool :=
  match r.block with
  | none => true
  | some b => g && !l.get b

/-- What a bring-up operation makes of the registers and lock flags when the gate is `g` (R171 to R184). -/
def rowEffect (c : Cfg) (d : Word) (g : Bool) (p : TargetRegs × LockFlags) (i : Instr) : TargetRegs × LockFlags :=
  match storageOf i, lockOf i with
  | some r, _ => (if writableAt g p.2 r then p.1.set r (rowValue c d i (p.1.get r)) else p.1, p.2)
  | none, some b => (p.1, if g then p.2.set b false else p.2)
  | none, none => p

/-- The same, with the gate that DBGEN gives. -/
def opEffect (c : Cfg) (d : Word) (p : TargetRegs × LockFlags) (i : Instr) : TargetRegs × LockFlags :=
  rowEffect c d (gateAt c p.1.dbgen) p i

theorem State.gate_eq_gateAt (s : State) : s.gate = gateAt s.cfg s.regs.dbgen := rfl

theorem rowEffect_of_storageOf {i : Instr} {r : StorageReg} (hr : storageOf i = some r) (g : Bool)
    (p : TargetRegs × LockFlags) :
    rowEffect c d g p i = (if writableAt g p.2 r then p.1.set r (rowValue c d i (p.1.get r)) else p.1, p.2) := by
  simp only [rowEffect, hr]

theorem rowEffect_unlockOp (b : Block) (g : Bool) (p : TargetRegs × LockFlags) :
    rowEffect c d g p (unlockOp b) = (p.1, if g then p.2.set b false else p.2) := by
  cases b <;> rfl

theorem gateAt_of_not_gating (h : c.traceEnGating = false) (x : Word) : gateAt c x = true := by
  simp [gateAt, h]

/-- Once the mask's bit is set the gate is open (R171). -/
theorem gateAt_or_traceMask (h : c.ok = true) (x : Word) : gateAt c (x ||| c.dbgenTraceMask) = true := by
  simp [gateAt, or_and_mask, Cfg.traceMask_ne_zero h]

/-- BU01 alone writes DBGEN. -/
theorem rowEffect_dbgen {i : Instr} (hi : i ≠ .bu01) (g : Bool) (p : TargetRegs × LockFlags) :
    (rowEffect c d g p i).1.dbgen = p.1.dbgen := by
  cases hr : storageOf i with
  | none => cases hl : lockOf i <;> simp [rowEffect, hr, hl]
  | some r =>
    have hne : StorageReg.dbgen ≠ r := fun e => hi (eq_bu01_of_storageOf (e ▸ hr))
    rw [rowEffect_of_storageOf hr]
    split
    · exact TargetRegs.get_set_ne p.1 r .dbgen _ hne
    · rfl

/-- In a sequence without BU01 the gate stays as it is at the start. -/
theorem foldl_opEffect : ∀ (ops : List Instr) (p : TargetRegs × LockFlags), Instr.bu01 ∉ ops →
    ops.foldl (opEffect c d) p = ops.foldl (rowEffect c d (gateAt c p.1.dbgen)) p
  | [], _, _ => rfl
  | i :: ops, p, h => by
    obtain ⟨hi, hops⟩ := not_or.mp (mt List.mem_cons.mpr h)
    rw [List.foldl_cons, List.foldl_cons, foldl_opEffect ops _ hops, opEffect, rowEffect_dbgen (Ne.symm hi)]

/-! ## A run of bring-up operations -/

/-- The transactions an operation makes: two for a read-modify-write, one otherwise (R123). -/
def txnCount : Instr → Nat
  | .bu01 | .bu06 | .bu13 | .bu14 => 2
  | _ => 1

/-- From `s` the bring-up operations `ops` have been executed, and `t` reached, with any drains between. -/
structure State.HasRun (s t : State) (ops : List Instr) : Prop where
  cfg : t.cfg = s.cfg
  div : t.div = s.div
  owned : t.owned = s.owned
  target : t.snapshot = ops.foldl (opEffect s.cfg s.div) s.snapshot
  trace : t.trace.length = s.trace.length + (ops.map txnCount).sum
  entered : ∀ ch, t.entered ch = s.entered ch

theorem State.HasRun.refl (s : State) : s.HasRun s [] := by
  constructor <;> simp

theorem State.HasRun.trans {ops' : List Instr} (h : s.HasRun t ops) (k : t.HasRun u ops') : s.HasRun u (ops ++ ops') where
  cfg := k.cfg.trans h.cfg
  div := k.div.trans h.div
  owned := k.owned.trans h.owned
  target := by rw [k.target, h.cfg, h.div, h.target, List.foldl_append]
  trace := by rw [k.trace, h.trace, List.map_append, List.sum_append, Nat.add_assoc]
  entered := fun ch => (k.entered ch).trans (h.entered ch)

theorem State.HasRun.drain (s : State) (c : Chan) : s.HasRun (s.drain c) [] where
  cfg := s.drain_cfg c
  div := s.drain_div c
  owned := s.drain_owned c
  target := Prod.ext (s.drain_regs c) (s.drain_locks c)
  trace := by rw [s.drain_trace c]; rfl
  entered := s.entered_drain c

/-- The transactions recorded are those of the row. -/
theorem exec_bringup_trace_length {i : Instr} (hi : i ∈ bringUpOps) (ht : exec i s = .next t) :
    t.trace.length = s.trace.length + txnCount i := by
  obtain ⟨new, htrace, hrow⟩ := everyTransactionIsRecordedOnce i s t ht
  suffices hnew : new.length = txnCount i by rw [htrace, List.length_append, hnew]
  cases i
  case bu01 | bu06 | bu13 | bu14 => obtain ⟨v, rfl⟩ := hrow; rfl
  case bu02 | bu03 | bu04 | bu05 | bu07 | bu08 | bu09 | bu10 | bu11 | bu12 => cases hrow; rfl
  all_goals simp [bringUpOps] at hi

/-- A bring-up operation has a next state, and its effect on registers and lock flags is its row's. -/
theorem exec_bringup_effect (hc : s.cfg.ok = true) {i : Instr} (hi : i ∈ bringUpOps) :
    ∃ t, exec i s = .next t ∧ t.seq = seqAfter i ∧ t.fifo = s.fifo ∧ t.snapshot = opEffect s.cfg s.div s.snapshot i := by
  obtain ⟨r, hr⟩ | ⟨b, rfl⟩ := bringUpOps_cases hi
  · obtain ⟨new, e⟩ := exec_of_storageOf hc hr
    refine ⟨_, e, rfl, rfl, ?_⟩
    exact (rowEffect_of_storageOf hr s.gate s.snapshot).symm
  · obtain ⟨new, e⟩ := exec_unlockOp hc b
    refine ⟨_, e, rfl, rfl, ?_⟩
    exact (rowEffect_unlockOp b s.gate s.snapshot).symm

theorem exec_hasRun (hc : s.cfg.ok = true) {i : Instr} (hi : i ∈ bringUpOps) :
    ∃ t, exec i s = .next t ∧ t.seq = seqAfter i ∧ t.env = s.env ∧ s.HasRun t [i] := by
  obtain ⟨t, ht, hseq, hfifo, heffect⟩ := exec_bringup_effect hc hi
  have hframe := exec_microFrame (exec_bringup_format hi) ht
  refine ⟨t, ht, hseq, by rw [hframe], by rw [hframe], by rw [hframe], by rw [hframe], heffect, ?_, ?_⟩
  · simpa using exec_bringup_trace_length hi ht
  · exact State.entered_congr (by rw [hframe]) hfifo

/-- One after the other, whatever SEQ says (R138, R187). -/
theorem execAll_hasRun : ∀ (ops : List Instr) {s : State}, s.cfg.ok = true → ops ⊆ bringUpOps →
    ∃ t, execAll ops s = .next t ∧ s.HasRun t ops
  | [], s, _, _ => ⟨s, rfl, .refl s⟩
  | i :: ops, s, hc, hops => by
    obtain ⟨hi, hops⟩ := List.cons_subset.mp hops
    obtain ⟨u, hu, -, -, hrun⟩ := exec_hasRun hc hi
    obtain ⟨t, ht, hrun'⟩ := execAll_hasRun ops (s := u) (hrun.cfg ▸ hc) hops
    exact ⟨t, by simp only [execAll, hu, ht], hrun.trans hrun'⟩

/-- SEQ stands before the operations that are left of a bring-up (R170). -/
def Ahead : List Instr → BitVec 5 → Prop
  | [], n => n = Seq.idle
  | i :: ops, n => decodeUop n = .ok i ∧ i ∈ bringUpOps ∧ Ahead ops (seqAfter i)

theorem ahead_bringUpOps : Ahead bringUpOps Seq.bu01 := by
  simp only [bringUpOps, Ahead, seqAfter]
  decide

/-- The environment's choice touches nothing of the run. -/
theorem State.HasRun.withEnv (s : State) (es : List EnvAction) : s.HasRun { s with env := es } [] :=
  ⟨rfl, rfl, rfl, rfl, rfl, fun _ => rfl⟩

theorem step_drain_hasRun (hc : s.cfg.ok = true) {ch : Chan} {rest : List EnvAction} (henv : s.env = .drain ch :: rest) :
    ∃ t, step s = .next t ∧ t.seq = s.seq ∧ t.env = rest ∧ s.HasRun t [] :=
  ⟨_, step_drain hc (State.nextChoice_cons henv), State.drain_seq _ _, State.drain_env _ _,
    (State.HasRun.withEnv s rest).trans (.drain _ ch)⟩

theorem step_proceed_hasRun (hc : s.cfg.ok = true) {i : Instr} (hcode : decodeUop s.seq = .ok i) (hi : i ∈ bringUpOps)
    {rest : List EnvAction} (henv : s.env = .proceed :: rest) :
    ∃ t, step s = .next t ∧ t.seq = seqAfter i ∧ t.env = rest ∧ s.HasRun t [i] := by
  have hchoice := State.nextChoice_cons henv
  have hstep := step_of_code hc (by rw [hchoice]) hcode
  obtain ⟨t, ht, hseq, hrest, hrun⟩ := exec_hasRun (s := { s with env := rest }) hc hi
  rw [hchoice, ht] at hstep
  exact ⟨t, hstep, hseq, hrest, (State.HasRun.withEnv s rest).trans hrun⟩

/-- Under a schedule without resets that lets the machine move once for each operation left, with any drains between, the
sequence runs to its end. -/
theorem run_hasRun {es : List EnvAction} {ops : List Instr} {s : State} {rest : List EnvAction} (hc : s.cfg.ok = true)
    (hahead : Ahead ops s.seq) (hno : EnvAction.reset ∉ es) (hcount : es.count .proceed = ops.length)
    (henv : s.env = es ++ rest) : ∃ t, core.run es.length s = .next t ∧ t.seq = Seq.idle ∧ s.HasRun t ops := by
  induction es generalizing ops s with
  | nil =>
    cases List.length_eq_zero_iff.mp hcount.symm
    exact ⟨s, rfl, hahead, .refl s⟩
  | cons e es ih =>
    have hno' : EnvAction.reset ∉ es := mt (List.mem_cons_of_mem e) hno
    cases e with
    | proceed =>
      cases ops with
      | nil => simp at hcount
      | cons i ops =>
        obtain ⟨hcode, hi, hahead'⟩ := hahead
        obtain ⟨u, hstep, hseq, hrest, hrun⟩ := step_proceed_hasRun hc hcode hi henv
        obtain ⟨t, ht, hidle, hrun'⟩ := ih (hrun.cfg ▸ hc) (hseq ▸ hahead') hno' (by simpa using hcount) hrest
        exact ⟨t, (run_succ hstep _).trans ht, hidle, hrun.trans hrun'⟩
    | drain c =>
      obtain ⟨u, hstep, hseq, hrest, hrun⟩ := step_drain_hasRun hc henv
      obtain ⟨t, ht, hidle, hrun'⟩ := ih (hrun.cfg ▸ hc) (hseq.symm ▸ hahead) hno' (by simpa using hcount) hrest
      exact ⟨t, (run_succ hstep _).trans ht, hidle, hrun.trans hrun'⟩
    | reset => exact absurd List.mem_cons_self hno

/-! ## The value of the effect (R185, R187) -/

section Value

variable (r : TargetRegs) (l : LockFlags)

/-- With the gate open, everything after BU01 takes effect: the protected registers and DBGCTL reach their final values and the
three blocks are unlocked. -/
theorem foldl_rowEffect_open :
    (bringUpOps.erase .bu01).foldl (rowEffect c d true) (r, l) =
      ({ bringUpFinal c r d with dbgen := r.dbgen }, ⟨false, false, false⟩) := by
  rfl

/-- With the gate closed, only DBGCTL does. -/
theorem foldl_rowEffect_closed :
    (bringUpOps.erase .bu01).foldl (rowEffect c d false) (r, l) = (r.set .dbgctl (bringUpFinal c r d).dbgctl, l) := by
  rfl

/-- The registers of one block from `r`, the others from `q`. -/
def blockFrom (b : Block) (r q : TargetRegs) : TargetRegs :=
  match b with
  | .fmt => { q with fmtWidth := r.fmtWidth, fmtDiv := r.fmtDiv, fmtMode := r.fmtMode, fmtFrame := r.fmtFrame }
  | .sync => { q with syncCtrl := r.syncCtrl }
  | .itm => { q with itmPriv := r.itmPriv, itmCtrl := r.itmCtrl, itmChen := r.itmChen }

theorem get_blockFrom (b : Block) (q : TargetRegs) (a : StorageReg) :
    (blockFrom b r q).get a = if a.block = some b then r.get a else q.get a := by
  cases b <;> cases a <;> rfl

/-- With the gate open and block `b` locked, its registers keep their values and it stays locked; the rest is as it would be. -/
theorem foldl_rowEffect_locked {l : LockFlags} {b : Block} (hb : l.get b = true) :
    ((bringUpOps.erase .bu01).erase (unlockOp b)).foldl (rowEffect c d true) (r, l) =
      (blockFrom b r { bringUpFinal c r d with dbgen := r.dbgen }, LockFlags.set ⟨false, false, false⟩ b true) := by
  obtain ⟨fmt, sync, itm⟩ := l
  cases b <;> cases hb <;>
    simp [bringUpOps, unlockOp, bringUpFinal, blockFrom, rowEffect, storageOf, lockOf, writableAt, StorageReg.block, rowValue,
      Cfg.itmCtrlValue, Cfg.dbgctlSet, channelZeroMask, TargetRegs.get, TargetRegs.set, LockFlags.get, LockFlags.set]

/-- BU01 sets the mask's bit of DBGEN, whatever the gate. -/
theorem opEffect_bu01 : opEffect c d (r, l) .bu01 = (r.set .dbgen (r.dbgen ||| c.dbgenTraceMask), l) := rfl

/-- BU01 and then a sequence without it: the gate is open from there on. -/
theorem foldl_opEffect_bu01_cons (hc : c.ok = true) (h : Instr.bu01 ∉ ops) :
    (.bu01 :: ops).foldl (opEffect c d) (r, l) =
      ops.foldl (rowEffect c d true) (r.set .dbgen (r.dbgen ||| c.dbgenTraceMask), l) := by
  have hgate : gateAt c (r.set .dbgen (r.dbgen ||| c.dbgenTraceMask)).dbgen = true := gateAt_or_traceMask hc r.dbgen
  rw [List.foldl_cons, opEffect_bu01, foldl_opEffect _ _ h, hgate]

/-- The whole sequence ends in the state of R185. -/
theorem foldl_bringUpOps (hc : c.ok = true) :
    bringUpOps.foldl (opEffect c d) (r, l) = (bringUpFinal c r d, ⟨false, false, false⟩) :=
  (foldl_opEffect_bu01_cons r l hc (ops := bringUpOps.erase .bu01) (by decide)).trans (foldl_rowEffect_open _ l)

/-- The sequence less a locked block's unlock leaves that block alone (R187). -/
theorem foldl_erase_unlockOp (hc : c.ok = true) {l : LockFlags} {b : Block} (hb : l.get b = true) :
    (bringUpOps.erase (unlockOp b)).foldl (opEffect c d) (r, l) =
      (blockFrom b r (bringUpFinal c r d), LockFlags.set ⟨false, false, false⟩ b true) := by
  have hops : bringUpOps.erase (unlockOp b) = .bu01 :: (bringUpOps.erase .bu01).erase (unlockOp b) := by
    cases b <;> decide
  have hno : Instr.bu01 ∉ (bringUpOps.erase .bu01).erase (unlockOp b) := by
    cases b <;> decide
  rw [hops, foldl_opEffect_bu01_cons r l hc hno, foldl_rowEffect_locked _ hb]
  cases b <;> rfl

/-- The sequence less BU01, behind a closed gate, reaches DBGCTL alone (R187, R81). -/
theorem foldl_erase_bu01_closed (hg : gateAt c r.dbgen = false) :
    (bringUpOps.erase .bu01).foldl (opEffect c d) (r, l) = (r.set .dbgctl (bringUpFinal c r d).dbgctl, l) := by
  rw [foldl_opEffect _ _ (by decide), hg, foldl_rowEffect_closed]

/-- The sequence less BU01, with the gate open all the same, misses DBGEN alone (R187, R56). -/
theorem foldl_erase_bu01_open (hg : gateAt c r.dbgen = true) :
    (bringUpOps.erase .bu01).foldl (opEffect c d) (r, l) =
      ({ bringUpFinal c r d with dbgen := r.dbgen }, ⟨false, false, false⟩) := by
  rw [foldl_opEffect _ _ (by decide), hg, foldl_rowEffect_open]

end Value

/-- The registers and lock flags at the end of a run, from the value of its effect. -/
theorem State.HasRun.target_eq {r : TargetRegs} {l : LockFlags} (h : s.HasRun t ops)
    (e : ops.foldl (opEffect s.cfg s.div) (s.regs, s.locks) = (r, l)) : t.regs = r ∧ t.locks = l :=
  Prod.ext_iff.mp (h.target.trans e)

/-- Clearing and setting the same bits again changes nothing. -/
theorem clear_set_idem (x m k : Word) : ((x &&& ~~~m) ||| k) &&& ~~~m ||| k = (x &&& ~~~m) ||| k := by
  ext i hi
  simp only [BitVec.getElem_or, BitVec.getElem_and, BitVec.getElem_not]
  cases x[i] <;> cases m[i] <;> cases k[i] <;> rfl

theorem bringUpFinal_idem (r : TargetRegs) : bringUpFinal c (bringUpFinal c r d) d = bringUpFinal c r d := by
  simp only [bringUpFinal, clear_set_idem, BitVec.or_assoc, BitVec.or_self, BitVec.and_assoc, BitVec.and_self]

/-- After a bring-up channel 0 is enabled and no other (R182, R56). -/
theorem State.channelEnabled_of_bringUpFinal (hc : t.cfg.ok = true) {r : TargetRegs} (hr : t.regs = bringUpFinal t.cfg r d)
    (ch : Chan) : t.channelEnabled ch = decide (ch = 0#5) := by
  have hgate : t.gate = true := by rw [State.gate_eq_gateAt, hr]; exact gateAt_or_traceMask hc _
  have hinstr : (t.regs.itmCtrl &&& t.cfg.itmEnInstr != 0) = true := by
    rw [bne_iff_ne]
    simp only [hr, bringUpFinal, BitVec.or_assoc]
    rw [BitVec.or_comm, or_and_mask]
    exact (t.cfg.ok_iff_meetsR9.mp hc).instr
  have hmask : t.regs.itmChen.getLsbD ch.toNat = decide (ch = 0#5) := by
    rw [hr]
    simp [bringUpFinal, BitVec.toNat_eq]
  rw [State.channelEnabled, hgate, hmask, hinstr]
  rfl

/-- A BRINGUP with the handle and a clock above the baud, executed with its fourteen operations, ends in the state of R185. -/
theorem execAll_bringup (hc : s.cfg.ok = true) (ho : s.owned = true) {f : Word} (hf : s.cfg.targetBaudHz < f.toNat) :
    ∃ t, execAll (.bringup f :: bringUpOps) s = .next t ∧ t.cfg = s.cfg ∧ t.owned = true ∧
      t.snapshot = (bringUpFinal s.cfg s.regs (s.cfg.divisor f), ⟨false, false, false⟩) ∧
      t.trace.length = s.trace.length + 18 := by
  have haccept : exec (.bringup f) s = .next ((s.latchClock f (s.cfg.divisor f)).setSeq Seq.bu01) :=
    State.acceptBringup_above_baud ho hf
  obtain ⟨t, ht, hrun⟩ :=
    execAll_hasRun bringUpOps (s := (s.latchClock f (s.cfg.divisor f)).setSeq Seq.bu01) hc (List.Subset.refl _)
  refine ⟨t, by simp only [execAll, haccept, ht], hrun.cfg, hrun.owned.trans ho, ?_, hrun.trace⟩
  exact hrun.target.trans (foldl_bringUpOps s.regs s.locks hc)

end Sys2Proof.Machine

namespace Sys2Proof

open Machine

/-- Settles O56: the schedule runs the fourteen operations, whose effect is R185's whatever it starts from; drains move no word
of a channel in or out. -/
theorem bringUpReachesItsFinalState : Obligations.BringUpReachesItsFinalState := by
  rintro s₀ s f es hc hs hno hcount ⟨rest, henv⟩
  obtain ⟨-, -, rfl⟩ := State.acceptBringup_next hs
  obtain ⟨t, ht, hidle, hrun⟩ := run_hasRun (ops := bringUpOps) (s := (s₀.latchClock f (s₀.cfg.divisor f)).setSeq Seq.bu01)
    hc ahead_bringUpOps hno hcount henv.symm
  have hcfg : t.cfg = s₀.cfg := hrun.cfg
  obtain ⟨hregs, hlocks⟩ := hrun.target_eq (foldl_bringUpOps s₀.regs s₀.locks hc)
  have henabled := State.channelEnabled_of_bringUpFinal (hcfg ▸ hc) (hcfg ▸ hregs)
  exact ⟨t, ht, hidle, hregs, hlocks, henabled 0#5, fun ch hch => (henabled ch).trans (decide_eq_false hch), hrun.trace,
    hrun.entered⟩

/-- Settles O57: the second run starts from the final state of the first, and that is its own final state. -/
theorem bringUpIsIdempotent : Obligations.BringUpIsIdempotent := by
  intro s f hc ho hf
  obtain ⟨t₁, h₁, hcfg, ho₁, hsnap₁, htrace₁⟩ := execAll_bringup hc ho hf
  obtain ⟨t₂, h₂, -, -, hsnap₂, htrace₂⟩ := execAll_bringup (s := t₁) (hcfg ▸ hc) ho₁ (hcfg ▸ hf)
  have hregs : t₁.regs = bringUpFinal s.cfg s.regs (s.cfg.divisor f) := (Prod.ext_iff.mp hsnap₁).1
  refine ⟨t₁, t₂, h₁, h₂, ?_, htrace₁, by omega⟩
  rw [hsnap₂, hsnap₁, hcfg, hregs, bringUpFinal_idem]

/-- Settles O58: a sequence less one operation is executed to its end, and its effect is that of the operations left: behind a
locked block, behind a closed gate, and with no gate. -/
theorem omittedUnlockMakesConfigurationIneffective : Obligations.OmittedUnlockMakesConfigurationIneffective := by
  refine ⟨fun s b hc hb => ?locked, fun s hc hgating hoff => ?closed, fun s hc hgating => ?ungated⟩
  case locked =>
    obtain ⟨t, ht, hrun⟩ := execAll_hasRun _ hc (List.erase_subset (a := unlockOp b))
    obtain ⟨hregs, hlocks⟩ := hrun.target_eq (foldl_erase_unlockOp s.regs hc hb)
    refine ⟨t, ht, fun r hr => ?_, fun r hr => ?_, ?_, fun b' hne => ?_⟩
    · rw [hregs, get_blockFrom, if_pos hr]
    · rw [hregs, get_blockFrom, if_neg hr]
    · rw [hlocks, LockFlags.get_set_same]
    · rw [hlocks, LockFlags.get_set_ne _ _ _ _ hne]
      cases b' <;> rfl
  case closed =>
    obtain ⟨t, ht, hrun⟩ := execAll_hasRun _ hc (List.erase_subset (a := Instr.bu01))
    have hgate : s.gate = false := by simp [State.gate, hgating, hoff]
    obtain ⟨hregs, hlocks⟩ := hrun.target_eq (foldl_erase_bu01_closed s.regs s.locks hgate)
    refine ⟨t, ht, hlocks, ?_, fun r hr => ?_⟩
    · rw [hregs]
      exact TargetRegs.get_set_same s.regs .dbgctl _
    · rw [hregs, TargetRegs.get_set_ne _ _ _ _ hr]
  case ungated =>
    obtain ⟨t, ht, hrun⟩ := execAll_hasRun _ hc (List.erase_subset (a := Instr.bu01))
    obtain ⟨hregs, hlocks⟩ := hrun.target_eq (foldl_erase_bu01_open s.regs s.locks (gateAt_of_not_gating hgating _))
    exact ⟨t, ht, hlocks, hregs⟩

end Sys2Proof
end

section
/-! PROOFS. The family on the stimulus writer, first part: the poll and the push with their whole next states and their frame, and
the words of a byte sequence unpacked again. -/

namespace Sys2Proof

namespace Machine

variable {s t : State}

/-! ## The status word (R89) -/

/-- The bit under STIM_READY_MASK says Ready. -/
theorem State.statusWord_and_mask_ne_zero_iff (hc : s.cfg.ok = true) (ch : Chan) :
    s.statusWord ch &&& s.cfg.stimReadyMask ≠ 0#32 ↔ s.ready ch = true := by
  rw [← s.statusWord_ready ch (Cfg.readyMask_ne_zero hc)]
  exact bne_iff_ne.symm

/-- The other bits are the free value's. -/
theorem State.statusWord_and_not_mask (s : State) (ch : Chan) :
    s.statusWord ch &&& ~~~s.cfg.stimReadyMask = Config.draw s.fresh &&& ~~~s.cfg.stimReadyMask := by
  rw [State.statusWord, BitVec.and_or_distrib_right, BitVec.and_assoc, BitVec.and_self]
  cases s.ready ch <;> simp

/-! ## The push (R88, R202) -/

/-- A recorded write at a port enters the queue exactly when the port is ready. -/
theorem State.log_targetWrite_port (s : State) (x : BusTxn) (ch : Chan) (v : Word) :
    (s.log x).targetWrite (.port ch) v = { s with
      trace := s.trace ++ [x]
      fifo := if s.ready ch then s.fifo.set ch.toNat (s.fifoAt ch ++ [v]) ch.isLt else s.fifo } := by
  rw [State.targetWrite, State.ready_log]
  cases s.ready ch <;> rfl

/-! ## The frame of the writer (R208, R70) -/

/-- Two sets of lock flags that read alike are equal. -/
theorem LockFlags.ext_get {l m : LockFlags} (h : ∀ b, l.get b = m.get b) : l = m := by
  cases l
  cases m
  simp only [LockFlags.mk.injEq]
  exact ⟨h .fmt, h .sync, h .itm⟩

/-- The poll is a read: it leaves the target and IDX as they are, whatever stands at its address. -/
theorem State.poll_frame (ht : s.poll = .next t) :
    t.fifo = s.fifo ∧ t.idx = s.idx ∧ t.regs = s.regs ∧ t.locks = s.locks := by
  obtain ⟨r, n, -, rfl⟩ := State.poll_next ht
  simp

/-- A writer operation has no storage register and no lock flag in its row (R123). -/
theorem exec_writer_keepsTarget {i : Instr} (hi : i = .wrPoll ∨ i = .wrPush) (hc : s.cfg.ok = true)
    (hch : s.ch.toNat < s.cfg.nChannels) (ht : exec i s = .next t) :
    t.regs = s.regs ∧ t.locks = s.locks ∧ ∀ c, c ≠ s.ch → t.fifoAt c = s.fifoAt c := by
  have hrow : i.format = .uop ∧ storageOf i = none ∧ lockOf i = none := by
    rcases hi with rfl | rfl <;> decide
  obtain ⟨hformat, hstorage, hlock⟩ := hrow
  have hkeeps := exec_keepsTarget hc hformat (fun _ => hch) ht
  exact ⟨TargetRegs.ext_get _ _ fun r => hkeeps.regs r (by simp [hstorage]),
    LockFlags.ext_get fun b => hkeeps.locks b (by simp [hlock]), fun c hne => hkeeps.fifo c fun _ => hne⟩

end Machine

/-! ## The words of a sequence, unpacked (R129, R205, R206) -/

/-- A word unpacks to its four padded bytes. -/
theorem bytesOfWord_wordAt (buf : List Byte) (len i : Nat) :
    bytesOfWord (wordAt buf len i) = (List.range' (4 * i) 4).map (paddedByte buf len) :=
  bytesOfWord_concatBytes _ _ _ _

/-- The first `n` words unpack to the first `4 * n` padded bytes. -/
theorem flatMap_bytesOfWord_wordAt (buf : List Byte) (len n : Nat) :
    ((List.range n).map (wordAt buf len)).flatMap bytesOfWord = (List.range (4 * n)).map (paddedByte buf len) := by
  induction n with
  | zero => rfl
  | succ n ih =>
    rw [List.range_succ, List.map_append, List.flatMap_append, ih, Nat.mul_succ, List.range_add, List.map_append]
    simp [bytesOfWord_wordAt, List.range'_eq_map_range]

/-- The padded bytes are the sequence and then zeros. -/
theorem map_paddedByte_range (buf : List Byte) {m : Nat} (hm : buf.length ≤ m) :
    (List.range m).map (paddedByte buf buf.length) = buf ++ List.replicate (m - buf.length) 0#8 := by
  apply List.ext_getElem
  · simp [hm]
  · intro j _ _
    rw [List.getElem_map, List.getElem_range, paddedByte_length, List.getElem_append]
    simp

open Machine

/-! ## The obligations -/

/-- Settles O24: the poll is one read of the port, whose status word holds Ready under the mask and the free value elsewhere. -/
theorem pollReadsOnceAndBranches : Obligations.PollReadsOnceAndBranches :=
  fun s hc hch => ⟨s.poll_eq hc hch, State.statusWord_and_mask_ne_zero_iff hc s.ch, s.statusWord_and_not_mask s.ch⟩

/-- Settles O25: the push is one write at the port, which enters the queue exactly when the port is ready. -/
theorem pushWritesTheNextWord : Obligations.PushWritesTheNextWord := by
  intro s hc hch w
  refine (s.push_eq hc hch).trans ?_
  rw [State.log_targetWrite_port]
  rfl

/-- Settles O28: word by word the padded bytes come back, and NWORDS is the least count that holds the sequence. -/
theorem packingRoundTrips : Obligations.PackingRoundTrips := by
  intro buf
  have hfits : buf.length ≤ 4 * wordCount buf.length := (wordCount_le_iff _ _).mp le_rfl
  refine ⟨?_, ?_, by simp [wordsOf]⟩
  · rw [wordsOf, flatMap_bytesOfWord_wordAt, map_paddedByte_range buf hfits]
  · rw [wordCount]
    omega

/-- Settles O33: the writer's row of R123 is one access at the port; the rest is the frame of every micro-operation. -/
theorem writerTouchesOnlyItsPort : Obligations.WriterTouchesOnlyItsPort := by
  intro i s t hi ht
  have haccess : ∃ x : BusTxn, t.trace = s.trace ++ [x] ∧ x.addr = s.cfg.aStimBase + 4#32 * s.ch.setWidth 32 := by
    obtain ⟨new, htrace, hrow⟩ := everyTransactionIsRecordedOnce i s t ht
    rcases hi with rfl | rfl
    · obtain ⟨v, rfl⟩ := hrow
      exact ⟨_, htrace, rfl⟩
    · cases hrow
      exact ⟨_, htrace, rfl⟩
  have hpoll : i = .wrPoll → t.fifo = s.fifo ∧ t.idx = s.idx ∧ t.regs = s.regs ∧ t.locks = s.locks := by
    rintro rfl
    exact State.poll_frame ht
  have hformat : i.format = .uop := by rcases hi with rfl | rfl <;> rfl
  refine ⟨haccess, fun hc hch => exec_writer_keepsTarget hi hc hch ht, hpoll, ?_⟩
  rw [exec_microFrame hformat ht]
  exact ⟨rfl, rfl, rfl, rfl, rfl, rfl, rfl, rfl, rfl, rfl, rfl, rfl⟩

end Sys2Proof
end

section
/-! PROOFS. The family on the stimulus writer, second part: what the polls and the push of a word make of its queue. Emitted and
queued words together are known from the advance of the run (`State.Advances`); a move of the machine emits nothing, so they give
the queue (R201 to R204). -/

namespace Sys2Proof.Machine

variable {s t : State} {rest : List EnvAction}

/-! ## EMIT and the queue (R55, R92) -/

/-- Only the drain emits: an operation leaves EMIT as it is. -/
theorem exec_keeps_emit {i : Instr} (ht : exec i s = .next t) : t.emit = s.emit := by
  by_cases hi : i.format = .uop
  · rw [exec_microFrame hi ht]
  · exact (exec_command_sameTarget hi ht).emit

theorem proceed_keeps_emit (ht : proceed s = .next t) : t.emit = s.emit := by
  obtain ⟨-, he⟩ | ⟨-, i, -, he⟩ := proceed_next ht
  · exact (exec_keeps_emit he).trans s.fetchCommand_emit
  · exact exec_keeps_emit he

/-- A drain of the channel takes the oldest word of its queue. -/
theorem State.fifoAt_drain_same (s : State) (ch : Chan) : (s.drain ch).fifoAt ch = (s.fifoAt ch).tail := by
  obtain ⟨hq, e⟩ | ⟨w, q, hq, e⟩ := s.drain_cases ch
  · rw [e, hq, List.tail_nil]
  · rw [e, hq, State.fifoAt_addEmit, State.fifoAt_setFifo_same, List.tail_cons]

/-- A run of one step is that step. -/
theorem step_of_run_one (h : core.run 1 s = .next t) : step s = .next t := by
  cases hs : step s with
  | next u => rwa [run_succ hs] at h
  | fault r => simp [Host.Core.run, core, hs] at h
  | refused r => simp [Host.Core.run, core, hs] at h

/-! ## The queue along the advance of a run -/

namespace State.Advances

variable {new : List BusTxn} {ws : List Word}

/-- In one move of the machine the words pushed are queued behind those in the FIFO. -/
theorem fifoAt_of_move (h : s.Advances t 1 new ws) (henv : s.env = .proceed :: rest) :
    t.fifoAt s.ch = s.fifoAt s.ch ++ ws := by
  have hstep := step_of_run_one h.run
  rw [step_proceed (step_next hstep).1 (State.nextChoice_cons henv)] at hstep
  have hemit : t.emittedOn s.ch = s.emittedOn s.ch := by
    rw [State.emittedOn, proceed_keeps_emit hstep, State.emittedOn]
  have hentered := h.entered
  rwa [State.entered, State.entered, hemit, List.append_assoc, List.append_cancel_left_eq] at hentered

end State.Advances

/-! ## The poll that spins, the drain that ends it, and the push (R201 to R204) -/

/-- While the port stays not ready each move is a read that finds the ready bit 0, and the queue waits. -/
theorem State.Inv.advances_polls_not_ready : ∀ (n : Nat) {s : State}, s.Inv → s.seq = Seq.wrPoll → s.ready s.ch = false →
    s.env = List.replicate n .proceed ++ rest →
    ∃ (t : State) (reads : List BusTxn), s.Advances t n reads [] ∧ t.seq = Seq.wrPoll ∧
      t.fifoAt s.ch = s.fifoAt s.ch ∧ reads.length = n ∧
      ∀ x ∈ reads, x.dir = .rd ∧ x.addr = s.cfg.stimAddr s.ch ∧ x.data &&& s.cfg.stimReadyMask = 0#32
  | 0, s, h, hs, _, _ => ⟨s, [], .refl h, hs, rfl, rfl, by simp⟩
  | n + 1, s, h, hs, hr, henv => by
    have henv' : s.env = .proceed :: (List.replicate n .proceed ++ rest) := henv
    obtain ⟨a, d, hadv, hbit, hready, hseq⟩ := h.advances_poll hs henv'
    have hqueue : a.fifoAt s.ch = s.fifoAt s.ch := (hadv.fifoAt_of_move henv').trans (List.append_nil _)
    have hzero : d &&& s.cfg.stimReadyMask = 0#32 := by simpa [hr] using hbit
    obtain ⟨t, reads, hadv', hseq', hqueue', hlen, hreads⟩ := hadv.inv.advances_polls_not_ready n (by simpa [hr] using hseq)
      (hready.trans hr) (by simp [hadv.env, henv'])
    rw [hadv.ch] at hqueue' hreads
    rw [hadv.cfg] at hreads
    refine ⟨t, _, Nat.add_comm n 1 ▸ hadv.trans hadv', hseq', hqueue'.trans hqueue, by simp [hlen], ?_⟩
    simpa using ⟨hzero, hreads⟩

/-- One drain of CH: its queue loses the oldest word, and its port is ready. -/
theorem State.Inv.advances_drain_same (h : s.Inv) (hen : s.channelEnabled s.ch = true) (henv : s.env = .drain s.ch :: rest) :
    ∃ t : State, s.Advances t 1 [] [] ∧ t.seq = s.seq ∧ t.ready t.ch = true ∧ t.fifoAt s.ch = (s.fifoAt s.ch).tail := by
  obtain ⟨t, hadv, hseq, hready⟩ := h.advances_drain henv
  have hstep := step_of_run_one hadv.run
  rw [step_drain h.cfgOk (State.nextChoice_cons henv)] at hstep
  have hqueue : t.fifoAt s.ch = (s.fifoAt s.ch).tail := by
    cases hstep
    exact State.fifoAt_drain_same _ _
  exact ⟨t, hadv, hseq, hready.trans (h.ready_drain_same h.writeSound.1 hen), hqueue⟩

/-- Two moves at the poll of a ready port: a read that finds the ready bit 1, and the push, whose word is queued. -/
theorem State.Inv.advances_poll_push (h : s.Inv) (hs : s.seq = Seq.wrPoll) (hr : s.ready s.ch = true)
    (henv : s.env = .proceed :: .proceed :: rest) :
    ∃ (t : State) (d : Word), s.Advances t 2 [⟨.rd, s.cfg.stimAddr s.ch, d⟩, s.nextPush] [s.nextWord] ∧
      d &&& s.cfg.stimReadyMask ≠ 0#32 ∧ t.fifoAt s.ch = s.fifoAt s.ch ++ [s.nextWord] := by
  obtain ⟨a, d, hpoll, hbit, -, hseq⟩ := h.advances_poll hs henv
  have henva : a.env = .proceed :: rest := by simp [hpoll.env, henv]
  obtain ⟨t, hpush, -⟩ := hpoll.inv.advances_push (hseq.trans (if_pos hr)) henva
  have hqueue := hpush.fifoAt_of_move henva
  rw [hpoll.ch, hpoll.nextWord, hpoll.fifoAt_of_move henv, List.append_nil] at hqueue
  rw [hpoll.nextPush, hpoll.nextWord] at hpush
  exact ⟨t, d, hpoll.trans hpush, hbit.mpr hr, hqueue⟩

end Sys2Proof.Machine

namespace Sys2Proof

open Machine

/-! ## The obligations -/

/-- Settles O26: the drains leave SEQ at the push, where the invariant says that the port is ready. -/
theorem aPushIsNeverLost : Obligations.APushIsNeverLost := by
  intro s ds rest h hs henv
  obtain ⟨t, hdrains, hseq⟩ := h.advances_drains ds henv
  have hst : t.seq = Seq.wrPush := hseq.trans hs
  have henvt : t.env = .proceed :: rest := by simp [hdrains.env, henv]
  obtain ⟨u, hpush, -⟩ := hdrains.inv.advances_push hst henvt
  have hqueue := hpush.fifoAt_of_move henvt
  rw [hdrains.ch, hdrains.nextWord] at hqueue
  refine ⟨t, u, hdrains.run, hst, hdrains.inv.pushReady hst, step_of_run_one hpush.run, hqueue, ?_⟩
  rw [hpush.trace, hdrains.trace, List.append_nil, hdrains.nextPush]
  rfl

/-- Settles O29: a full FIFO is not ready, so each of the first moves is a read that finds the ready bit 0; the drain makes the
port ready, and the poll and the push follow. -/
theorem pollsUntilReadyThenPushesOnce : Obligations.PollsUntilReadyThenPushesOnce := by
  intro s n rest h hs hen hfull henv
  have hnot : s.ready s.ch = false := by simp [State.ready, hfull]
  rw [List.append_assoc] at henv
  obtain ⟨a, reads, hpolls, hseqa, hqueuea, hlen, hreads⟩ := h.advances_polls_not_ready n hs hnot henv
  have henva : a.env = .drain a.ch :: .proceed :: .proceed :: rest := by simp [hpolls.env, henv, hpolls.ch]
  obtain ⟨b, hdrain, hseqb, hready, hqueueb⟩ :=
    hpolls.inv.advances_drain_same (hpolls.channelEnabled.trans hen) henva
  have hbefore := hpolls.trans hdrain
  obtain ⟨t, d, hword, hd, hqueue⟩ := hbefore.inv.advances_poll_push (rest := rest) (hseqb.trans hseqa) hready
    (by simp [hdrain.env, henva])
  have hall := hbefore.trans hword
  rw [hbefore.cfg] at hd
  rw [hdrain.ch, hqueueb, hpolls.ch, hqueuea, hbefore.nextWord] at hqueue
  refine ⟨t, reads, d, hall.run, hlen, ?_, hreads, hd, hqueue, by simp [hall.idx], ?_⟩
  · rw [hall.trace, hbefore.nextPush, hbefore.cfg, hbefore.ch]
    simp [State.nextPush, State.nextWord]
  · rw [hword.env, hdrain.env, henva]
    rfl

end Sys2Proof
end

section
/-! PROOFS. The family on the driving loop: the two phases of each driver state, what leaves the driver's registers alone, and
one iteration of the loop as an accepted WRITE, its two rounds and the count (R221 to R224). -/

namespace Sys2Proof

/-! ## The payload's words and the counter (R134, R205, R223) -/

/-- A byte appended below is a shift by 256 and an addition. -/
theorem toNat_append_byte {n : Nat} (x : BitVec n) (b : Byte) : (x ++ b).toNat = x.toNat * 256 + b.toNat := by
  rw [BitVec.toNat_append, ← Nat.shiftLeft_add_eq_or_of_lt b.isLt, Nat.shiftLeft_eq]

/-- A word of one byte four times is the byte's multiple. -/
theorem concatBytes_same (b : Byte) : concatBytes b b b b = b.setWidth 32 * 0x01010101#32 := by
  have hb := b.isLt
  refine BitVec.eq_of_toNat_eq ?_
  rw [BitVec.toNat_mul, BitVec.toNat_setWidth, BitVec.toNat_ofNat]
  simp only [concatBytes, toNat_append_byte]
  omega

/-- The driver's eight bytes are two words, each the payload byte four times. -/
theorem Cfg.wordsOf_payloadBytes (c : Cfg) (cnt : Byte) :
    wordsOf (c.payloadBytes cnt) = List.replicate 2 ((c.payloadByte cnt).setWidth 32 * 0x01010101#32) := by
  rw [← concatBytes_same]
  simp [wordsOf, wordCount, wordAt, paddedByte, Cfg.payloadBytes, List.range_succ, List.replicate_succ]

/-- Byte addition is addition modulo 256. -/
theorem nextCount_eq (cnt : Byte) : nextCount cnt = BitVec.ofNat 8 ((cnt.toNat + 1) % 256) :=
  BitVec.eq_of_toNat_eq (by simp [nextCount])

namespace Machine

variable {s t : State} {rest : List EnvAction}

/-! ## The phases of the driver states (R221, R222) -/

/-- DRV_INIT in phase 0 acquires; an ACQUIRE that faults leaves the phase as it is (log entry 13). -/
theorem exec_drvInit_acquire (hph : s.dphase = 0#1) :
    exec .drvInit s =
      if s.owned then .next (s.raise ownershipTaken) else .next (s.grant.setDriver s.dstate 1#1) := by
  cases ho : s.owned <;> simp [exec, execDrvInit, hph, State.acquire_eq, ho, onNext, State.grant]

/-- DRV_INIT in phase 1 brings up, and moves to RUN when the command is accepted. -/
theorem exec_drvInit_bringup (hph : s.dphase = 1#1) :
    exec .drvInit s = onNext (s.acceptBringup s.clockHzIn) fun u => u.setDriver 1#1 0#1 := by
  simp [exec, execDrvInit, hph]

/-- DRV_RUN in phase 0 presents the WRITE of the payload. -/
theorem exec_drvRun_present (hph : s.dphase = 0#1) :
    exec .drvRun s = onNext (s.acceptWrite 0#5 (s.cfg.payloadBytes s.cnt)) fun u => u.setDriver u.dstate 1#1 := by
  simp [exec, execDrvRun, hph]

/-- DRV_RUN in phase 1 counts. -/
theorem exec_drvRun_count (hph : s.dphase = 1#1) :
    exec .drvRun s = .next ((s.setCnt (nextCount s.cnt)).setDriver s.dstate 0#1) := by
  simp [exec, execDrvRun, hph]

/-! ## The driver stays in RUN (R222, R225) -/

/-- No command and no driver state moves DSTATE but to RUN. -/
theorem exec_command_keeps_dstate_run {i : Instr} (hi : i.format ≠ .uop) (hs : s.dstate = 1#1) (ht : exec i s = .next t) :
    t.dstate = 1#1 := by
  cases i
  case none => cases ht; exact hs
  case acquire =>
    rw [exec, execAcquire, State.acquire_eq] at ht
    split at ht <;> cases ht <;> exact hs
  case bringup =>
    obtain ⟨-, -, rfl⟩ := State.acceptBringup_next ht
    exact hs
  case write =>
    obtain ⟨-, -, ⟨-, rfl⟩ | ⟨-, rfl⟩⟩ := State.acceptWrite_next ht <;> exact hs
  case drvInit =>
    obtain hph | hph := BitVec.eq_zero_or_eq_one s.dphase
    · rw [exec_drvInit_acquire hph] at ht
      split at ht <;> cases ht <;> exact hs
    · rw [exec_drvInit_bringup hph] at ht
      obtain ⟨u, -, rfl⟩ := onNext_next ht
      rfl
  case drvRun =>
    obtain hph | hph := BitVec.eq_zero_or_eq_one s.dphase
    · rw [exec_drvRun_present hph] at ht
      obtain ⟨u, hu, rfl⟩ := onNext_next ht
      obtain ⟨-, -, ⟨-, rfl⟩ | ⟨-, rfl⟩⟩ := State.acceptWrite_next hu <;> exact hs
    · rw [exec_drvRun_count hph] at ht
      cases ht
      exact hs
  all_goals exact absurd rfl hi

/-- Nor does a micro-operation. -/
theorem exec_keeps_dstate_run {i : Instr} (hs : s.dstate = 1#1) (ht : exec i s = .next t) : t.dstate = 1#1 := by
  by_cases hi : i.format = .uop
  · rw [exec_microFrame hi ht]
    exact hs
  · exact exec_command_keeps_dstate_run hi hs ht

/-! ## The driver waits while the controller is busy (R150) -/

/-- The driver's registers and who presents commands are the same. -/
structure State.SameDriver (s t : State) : Prop where
  source : t.source = s.source
  dstate : t.dstate = s.dstate
  dphase : t.dphase = s.dphase
  cnt : t.cnt = s.cnt

theorem State.SameDriver.trans {u : State} (h : s.SameDriver t) (k : t.SameDriver u) : s.SameDriver u :=
  ⟨k.source.trans h.source, k.dstate.trans h.dstate, k.dphase.trans h.dphase, k.cnt.trans h.cnt⟩

/-- A micro-operation and a drain leave the driver alone. -/
theorem step_sameDriver (hs : s.nextChoice.1 = .proceed → s.seq ≠ Seq.idle) (hr : s.noResetNext) (ht : step s = .next t) :
    s.SameDriver t := by
  obtain ⟨-, ⟨hchoice, hp⟩ | ⟨c, -, rfl⟩ | ⟨hreset, -⟩⟩ := step_next ht
  · obtain ⟨ha, -⟩ | ⟨-, i, hi, he⟩ := proceed_next hp
    · simp [State.accepting, hs hchoice] at ha
    · have hrows : ∀ p ∈ uopTable, p.2.format = .uop := by decide
      rw [exec_microFrame (hrows _ (mem_uopTable_of_decodeUop hi)) he]
      constructor <;> simp
  · constructor <;> simp
  · exact absurd hreset hr

/-! ## The driver waits while a WRITE has words to push (R200, R222) -/

/-- A WRITE comes back to IDLE in no fewer moves of the machine than these: a poll and a push for each word. -/
def State.movesLeft (s : State) : Nat :=
  if s.seq = Seq.wrPoll then 2 * (s.nwords - s.idx) else if s.seq = Seq.wrPush then 2 * (s.nwords - s.idx) - 1 else 0

theorem State.movesLeft_of_poll (hs : s.seq = Seq.wrPoll) : s.movesLeft = 2 * (s.nwords - s.idx) := if_pos hs

theorem State.movesLeft_of_push (hs : s.seq = Seq.wrPush) : s.movesLeft = 2 * (s.nwords - s.idx) - 1 := by
  simp [State.movesLeft, hs]

theorem State.seq_of_movesLeft_pos (h : 0 < s.movesLeft) : s.seq = Seq.wrPoll ∨ s.seq = Seq.wrPush := by
  simp only [State.movesLeft] at h
  split at h
  · exact .inl ‹_›
  · split at h
    · exact .inr ‹_›
    · exact absurd h (lt_irrefl 0)

/-- A move takes away at most one of them. -/
theorem State.Inv.advances_move (h : s.Inv) (hpos : 0 < s.movesLeft) (henv : s.env = .proceed :: rest) :
    ∃ (t : State) (new : List BusTxn) (ws : List Word), s.Advances t 1 new ws ∧ s.movesLeft ≤ t.movesLeft + 1 := by
  obtain hs | hs := State.seq_of_movesLeft_pos hpos
  · obtain ⟨t, d, hadv, -, -, hseq⟩ := h.advances_poll hs henv
    refine ⟨t, _, _, hadv, ?_⟩
    rw [State.movesLeft_of_poll hs]
    split at hseq
    · rw [State.movesLeft_of_push hseq, hadv.nwords, hadv.idx, List.length_nil]
      omega
    · rw [State.movesLeft_of_poll hseq, hadv.nwords, hadv.idx, List.length_nil]
      omega
  · obtain ⟨t, hadv, hseq⟩ := h.advances_push hs henv
    refine ⟨t, _, _, hadv, ?_⟩
    rw [State.movesLeft_of_push hs]
    by_cases hlast : s.idx + 1 = s.nwords
    · omega
    · rw [State.seqAfterPush, if_neg hlast] at hseq
      rw [State.movesLeft_of_poll hseq, hadv.nwords, hadv.idx, List.length_singleton]
      omega

/-- A move takes away at most one, a drain none. -/
theorem State.Inv.advances_choice (h : s.Inv) {e : EnvAction} (hreset : e ≠ .reset) (hpos : e = .proceed → 0 < s.movesLeft)
    (henv : s.env = e :: rest) :
    ∃ (t : State) (new : List BusTxn) (ws : List Word),
      s.Advances t 1 new ws ∧ s.movesLeft ≤ t.movesLeft + [e].count .proceed := by
  cases e with
  | proceed => exact h.advances_move (hpos rfl) henv
  | drain c =>
    obtain ⟨t, hadv, hseq, -⟩ := h.advances_drain henv
    exact ⟨t, _, _, hadv, by simp [State.movesLeft, hseq, hadv.nwords, hadv.idx]⟩
  | reset => exact absurd rfl hreset

/-- A schedule that lets the machine move no more often than that leaves the driver alone, whatever it drains. -/
theorem State.Inv.sameDriver_of_moves : ∀ (es : List EnvAction) {s t : State}, s.Inv → EnvAction.reset ∉ es →
    es.count .proceed ≤ s.movesLeft → s.env = es ++ rest → core.run es.length s = .next t → s.SameDriver t
  | [], _, _, _, _, _, _, hrun => by
    cases hrun
    exact ⟨rfl, rfl, rfl, rfl⟩
  | e :: es, s, t, h, hno, hmoves, henv, hrun => by
    rw [List.mem_cons, not_or] at hno
    obtain ⟨hreset, hno'⟩ := hno
    have hpos : e = .proceed → 0 < s.movesLeft := by
      rintro rfl
      exact (List.count_pos_iff.mpr List.mem_cons_self).trans_le hmoves
    obtain ⟨u, new, ws, hadv, hleft⟩ := h.advances_choice (Ne.symm hreset) hpos henv
    have hchoice : s.nextChoice.1 = e := by rw [State.nextChoice_cons henv]
    have hbusy : s.nextChoice.1 = .proceed → s.seq ≠ Seq.idle := fun hp => by
      obtain hs | hs := State.seq_of_movesLeft_pos (hpos (hchoice.symm.trans hp)) <;> simp [hs]
    have hfirst : s.SameDriver u :=
      step_sameDriver hbusy (hchoice.trans_ne (Ne.symm hreset)) (step_of_run_one hadv.run)
    rw [List.length_cons, Nat.add_comm, run_add hadv.run] at hrun
    rw [← List.singleton_append, List.count_append] at hmoves
    exact hfirst.trans (hadv.inv.sameDriver_of_moves es hno' (by omega) (by simp [hadv.env, henv]) hrun)

/-- Rounds with nothing but drains between hold two moves for each round, and no reset. -/
theorem drainFairRounds_count (ch : Chan) (rounds : List (List Chan)) :
    EnvAction.reset ∉ drainFairRounds ch rounds ∧ (drainFairRounds ch rounds).count .proceed = 2 * rounds.length := by
  induction rounds with
  | nil => exact ⟨List.not_mem_nil, rfl⟩
  | cons ds rounds ih =>
    obtain ⟨hno, hcount⟩ := ih
    have hdrains : (ds.map EnvAction.drain).count .proceed = 0 := List.count_eq_zero.mpr (by simp)
    refine ⟨by simp [drainFairRounds, hno], ?_⟩
    simp only [drainFairRounds, List.count_append, hdrains, hcount, List.length_cons]
    have hround : [EnvAction.drain ch, .proceed, .proceed].count .proceed = 2 := by simp
    omega

/-- A WRITE completes in its rounds, and the driver waits for it. -/
theorem State.Inv.write_in_rounds (h : s.Inv) (hs : s.seq = Seq.wrPoll) (hidx : s.idx = 0)
    (hen : s.channelEnabled s.ch = true) {rounds : List (List Chan)} (hlen : rounds.length = s.nwords)
    (henv : s.env = drainFairRounds s.ch rounds ++ rest) :
    ∃ (t : State) (new : List BusTxn), s.Advances t (drainFairRounds s.ch rounds).length new (wordsOf s.buf) ∧
      t.seq = Seq.idle ∧ s.SameDriver t := by
  obtain ⟨t, new, hadv, hseq⟩ := h.rounds_complete rounds (h.betweenWords_start hs) hen
    (by rw [hidx, Nat.zero_add, hlen]) henv
  rw [h.remainingWords_start hidx] at hadv
  obtain ⟨hno, hcount⟩ := drainFairRounds_count s.ch rounds
  refine ⟨t, new, hadv, hseq, h.sameDriver_of_moves _ hno ?_ henv hadv.run⟩
  rw [hcount, State.movesLeft_of_poll hs, hidx, hlen, Nat.sub_zero]

/-! ## The moves of the driving loop (R220 to R224) -/

section Loop

variable (h : s.Inv) (hsrc : s.source = .driver) (hs : s.seq = Seq.idle) (hrun : s.dstate = 1#1)
  (henv : s.env = .proceed :: rest)
include h hsrc hs hrun henv

/-- In RUN a move of the driver is DRV_RUN. -/
theorem State.Inv.step_driver : Machine.step s = exec .drvRun { s with env := rest } := by
  have hcmd := stepPresentsTheSourcesCommand s _ h.cfgOk (State.nextChoice_cons henv) hs (h.fault_eq_false (by simp [hs]))
  rw [hcmd.1 hsrc, hrun]
  rfl

/-- In phase 0 it presents the WRITE of the payload. -/
theorem State.Inv.step_driver_write (hph : s.dphase = 0#1) (ho : s.owned = true) :
    Machine.step s = .next { s with
      env := rest, ch := 0#5, buf := s.cfg.payloadBytes s.cnt, len := 8, idx := 0, writeHeld := true,
      seq := Seq.wrPoll, dphase := 1#1 } := by
  obtain ⟨-, -, hchannels, -⟩ := Cfg.sizes_of_ok h.cfgOk
  have hch : (0#5).toNat < s.cfg.nChannels := hchannels.trans_lt' (by decide)
  exact (h.step_driver hsrc hs hrun henv).trans (exec_drvRun_write hph ho hch)

/-- In phase 1 it counts. -/
theorem State.Inv.step_driver_count (hph : s.dphase = 1#1) :
    Machine.step s = .next { s with env := rest, cnt := s.cnt + 1, dphase := 0#1 } :=
  (h.step_driver hsrc hs hrun henv).trans (exec_drvRun_count hph)

end Loop

end Machine

open Machine

/-! ## The obligations -/

/-- Settles O38: no operation moves DSTATE away from RUN, and the drain does not touch it. -/
theorem runStateIsNeverLeft : Obligations.RunStateIsNeverLeft := by
  intro s t hs hr ht
  obtain ⟨-, ⟨-, hp⟩ | ⟨ch, -, rfl⟩ | ⟨hreset, -⟩⟩ := step_next ht
  · obtain ⟨-, he⟩ | ⟨-, i, -, he⟩ := proceed_next hp
    · exact exec_keeps_dstate_run (by simpa using hs) he
    · exact exec_keeps_dstate_run (by simpa using hs) he
  · simpa using hs
  · exact absurd hreset hr

/-- Settles O35: the outcomes of ACQUIRE in phase 0, those of BRINGUP in phase 1. -/
theorem driverInitAcquiresThenBringsUp : Obligations.DriverInitAcquiresThenBringsUp := by
  refine fun s => ⟨fun hph ho => ?_, fun hph ho hclk => ?_, fun hph ho => ?_, fun hph ho hclk => ?_, fun hph ho => ?_⟩
  · exact (exec_drvInit_acquire hph).trans (if_neg (Bool.eq_false_iff.mp ho))
  · rw [exec_drvInit_bringup hph, State.acceptBringup_above_baud ho hclk]
    rfl
  · exact ⟨s.raise ownershipTaken, (exec_drvInit_acquire hph).trans (if_pos ho), rfl, rfl, rfl⟩
  · rw [exec_drvInit_bringup hph, State.acceptBringup_at_most_baud ho hclk]
    rfl
  · rw [exec_drvInit_bringup hph, State.acceptBringup_not_owned ho]
    rfl

/-- Settles O36: the acceptance of the payload's WRITE in phase 0, the count in phase 1. -/
theorem driverRunWritesThenCounts : Obligations.DriverRunWritesThenCounts := by
  refine fun s => ⟨fun hph ho hch _ => ?_, fun hph ho => ?_, fun hph => ?_⟩
  · exact exec_drvRun_write hph ho hch
  · rw [exec_drvRun_present hph, State.acceptWrite_not_owned ho]
    rfl
  · rw [← nextCount_eq]
    exact exec_drvRun_count hph

/-- Settles O37: the WRITE is accepted, its two rounds push its two words while the driver waits, and the driver counts. -/
theorem driverIterationSendsThePayloadTwice : Obligations.DriverIterationSendsThePayloadTwice := by
  intro s ds es rest h hsrc hs ho hrun hph hen henv
  have hwrite := h.step_driver_write hsrc hs hrun henv hph ho
  obtain ⟨b, new, hadv, hseq, hdriver⟩ := (h.step hwrite).write_in_rounds (rounds := [ds, es]) rfl rfl hen
    (by simp [State.nwords, wordCount]) rfl
  have henvb : b.env = .proceed :: rest := hadv.env.trans List.drop_left
  have hcount := hadv.inv.step_driver_count (hdriver.source.trans hsrc) hseq (hdriver.dstate.trans hrun) henvb hdriver.dphase
  have hall := (run_succ hwrite _).trans ((run_add hadv.run 1).trans (run_succ hcount 0))
  rw [Cfg.wordsOf_payloadBytes] at hadv
  exact ⟨_, hall, hseq, hdriver.dstate.trans hrun, rfl, congrArg (· + 1) hdriver.cnt, rfl, hadv.entered⟩

end Sys2Proof
end

section
/-! PROOFS. The family on exceptions, first part: which operation raises the fault, as one inversion over the operations, and what
the step makes of it (R230, R232, R237). -/

namespace Sys2Proof

namespace Machine

variable {s t : State}

/-! ## The operation that raises the fault -/

theorem State.acceptBringup_keeps_fault {f : Word} (ht : s.acceptBringup f = .next t) : t.fault = s.fault := by
  obtain ⟨-, -, rfl⟩ := State.acceptBringup_next ht
  rfl

theorem State.acceptWrite_keeps_fault {ch : Chan} {bytes : List Byte} (ht : s.acceptWrite ch bytes = .next t) :
    t.fault = s.fault := by
  obtain ⟨-, -, ⟨-, rfl⟩ | ⟨-, rfl⟩⟩ := State.acceptWrite_next ht <;> rfl

/-- The operations that present an ACQUIRE: the command, and the driver's INIT in phase 0 (R221). -/
def State.presentsAcquire (s : State) (i : Instr) : Prop := i = .acquire ∨ (i = .drvInit ∧ s.dphase = 0#1)

/-- An operation leaves FAULT alone, or is an ACQUIRE with OWNED 1, whose next state is the fault entry. -/
theorem exec_fault_cases {i : Instr} (ht : exec i s = .next t) :
    t.fault = s.fault ∨ (s.owned = true ∧ s.presentsAcquire i ∧ t = s.raise ownershipTaken) := by
  cases i
  case none => cases ht; exact .inl rfl
  case acquire =>
    rw [exec, execAcquire, State.acquire_eq] at ht
    split at ht <;> cases ht
    · exact .inr ⟨‹_›, .inl rfl, rfl⟩
    · exact .inl rfl
  case bringup => exact .inl (State.acceptBringup_keeps_fault ht)
  case write => exact .inl (State.acceptWrite_keeps_fault ht)
  case drvInit =>
    obtain hph | hph := BitVec.eq_zero_or_eq_one s.dphase
    · rw [exec_drvInit_acquire hph] at ht
      split at ht <;> cases ht
      · exact .inr ⟨‹_›, .inr ⟨rfl, hph⟩, rfl⟩
      · exact .inl rfl
    · rw [exec_drvInit_bringup hph] at ht
      obtain ⟨u, hu, rfl⟩ := onNext_next ht
      exact .inl ((u.setDriver_fault _ _).trans (State.acceptBringup_keeps_fault hu))
  case drvRun =>
    obtain hph | hph := BitVec.eq_zero_or_eq_one s.dphase
    · rw [exec_drvRun_present hph] at ht
      obtain ⟨u, hu, rfl⟩ := onNext_next ht
      exact .inl ((u.setDriver_fault _ _).trans (State.acceptWrite_keeps_fault hu))
    · rw [exec_drvRun_count hph] at ht
      cases ht
      exact .inl rfl
  all_goals
    rw [exec_microFrame rfl ht]
    exact .inl rfl

/-- The machine accepts commands at IDLE only (R150). -/
theorem State.seq_of_accepting (h : s.accepting = true) : s.seq = Seq.idle := by
  simp only [State.accepting, Bool.and_eq_true, beq_iff_eq] at h
  exact h.1

/-- The machine's own step leaves FAULT alone, or is an ACQUIRE accepted with OWNED 1. -/
theorem proceed_fault_cases (ht : proceed s = .next t) :
    t.fault = s.fault ∨ (s.seq = Seq.idle ∧ s.owned = true ∧ s.presentsAcquire s.fetchCommand.1 ∧
      t = s.fetchCommand.2.raise ownershipTaken) := by
  obtain ⟨ha, he⟩ | ⟨-, i, hi, he⟩ := proceed_next ht
  · simpa [State.seq_of_accepting ha, State.presentsAcquire] using exec_fault_cases he
  · rw [exec_microFrame (format_of_decodeUop hi) he]
    exact .inl rfl

end Machine

open Machine

/-! ## The obligation -/

/-- Settles O39: a drain leaves FAULT alone and a reset clears it, so the machine moved, and only a second ACQUIRE raises it. -/
theorem onlyASecondAcquireRaisesTheFault : Obligations.OnlyASecondAcquireRaisesTheFault := by
  intro s t ht hs hf
  obtain ⟨-, ⟨hchoice, hp⟩ | ⟨ch, -, rfl⟩ | ⟨-, rfl⟩⟩ := step_next ht
  · obtain hsame | ⟨hseq, ho, hacq, rfl⟩ := proceed_fault_cases hp
    · simp [hsame, hs] at hf
    · exact ⟨hchoice, by simpa using hseq, by simpa using ho, by simpa [State.presentsAcquire] using hacq, rfl⟩
  · simp [hs] at hf
  · cases hf

end Sys2Proof
end

section
/-! PROOFS. The family on exceptions, second part: no operation reads ITM_PRIV. Each update of the state and each operation is
followed through a replacement of that register: what it answers differs at most there (R240, R180). -/

namespace Sys2Proof

namespace Machine

variable {s : State} {p : Word}

/-! ## Outcomes that differ at most in ITM_PRIV -/

/-- The same stop, or next states of which the second has another value in ITM_PRIV at most. -/
def SameButPriv (o o' : Result) : Prop := ∃ q, o' = onNext o fun t => t.withPriv q

theorem SameButPriv.next (s : State) (q : Word) : SameButPriv (.next s) (.next (s.withPriv q)) := ⟨q, rfl⟩

/-- An outcome has the same stop as itself, or a next state with the value that ITM_PRIV holds there. -/
theorem SameButPriv.refl (o : Result) : SameButPriv o o := by
  cases o with
  | next s => exact .next s s.regs.itmPriv
  | fault | refused => exact ⟨0#32, rfl⟩

/-- What follows an operation and leaves ITM_PRIV alone keeps the outcomes together. -/
theorem SameButPriv.onNext {o o' : Result} (h : SameButPriv o o') {f : State → State}
    (hf : ∀ t q, f (t.withPriv q) = (f t).withPriv q) : SameButPriv (onNext o f) (onNext o' f) := by
  obtain ⟨q, rfl⟩ := h
  refine ⟨q, ?_⟩
  cases o with
  | next t => exact congrArg _ (hf t q)
  | fault | refused => rfl

/-- With ITM_PRIV overwritten they are equal. -/
theorem SameButPriv.withPriv_eq {o o' : Result} (h : SameButPriv o o') (v : Word) :
    Machine.onNext o' (fun t => t.withPriv v) = Machine.onNext o fun t => t.withPriv v := by
  obtain ⟨q, rfl⟩ := h
  cases o <;> rfl

/-! ## What does not depend on ITM_PRIV -/

@[simp] theorem State.withPriv_cfg (s : State) (p : Word) : (s.withPriv p).cfg = s.cfg := rfl
@[simp] theorem State.withPriv_owned (s : State) (p : Word) : (s.withPriv p).owned = s.owned := rfl
@[simp] theorem State.withPriv_ch (s : State) (p : Word) : (s.withPriv p).ch = s.ch := rfl
@[simp] theorem State.withPriv_buf (s : State) (p : Word) : (s.withPriv p).buf = s.buf := rfl
@[simp] theorem State.withPriv_len (s : State) (p : Word) : (s.withPriv p).len = s.len := rfl
@[simp] theorem State.withPriv_idx (s : State) (p : Word) : (s.withPriv p).idx = s.idx := rfl
@[simp] theorem State.withPriv_channelEnabled (s : State) (p : Word) (ch : Chan) :
    (s.withPriv p).channelEnabled ch = s.channelEnabled ch := rfl
@[simp] theorem State.withPriv_fifoAt (s : State) (p : Word) (ch : Chan) : (s.withPriv p).fifoAt ch = s.fifoAt ch := rfl
@[simp] theorem State.withPriv_storageWritable (s : State) (p : Word) (r : StorageReg) :
    (s.withPriv p).storageWritable r = s.storageWritable r := rfl

/-! ## The bus (R80, R83 to R90) -/

theorem State.get_withPriv_ne (s : State) (p : Word) {r : StorageReg} (h : r ≠ .itmPriv) :
    (s.withPriv p).regs.get r = s.regs.get r := by
  cases r
  case itmPriv => exact absurd rfl h
  all_goals rfl

/-- A write that the target takes may overwrite ITM_PRIV; whether it takes it does not depend on that register. -/
theorem State.targetWrite_withPriv (s : State) (p : Word) (r : BusReg) (v : Word) :
    ∃ q, (s.withPriv p).targetWrite r v = (s.targetWrite r v).withPriv q := by
  cases r with
  | storage r =>
    rw [State.targetWrite_storage, State.targetWrite_storage, State.withPriv_storageWritable]
    cases s.storageWritable r
    · exact ⟨p, rfl⟩
    · cases r
      case itmPriv => exact ⟨v, rfl⟩
      all_goals exact ⟨p, rfl⟩
  | unlock b =>
    rw [State.targetWrite_unlock, State.targetWrite_unlock]
    exact ⟨p, rfl⟩
  | port ch =>
    rw [State.targetWrite_port, State.targetWrite_port]
    exact ⟨p, rfl⟩

/-- What `MemWrite` leaves differs at most in ITM_PRIV. -/
theorem State.memWrite_withPriv (s : State) (p a v : Word) :
    ∃ q, (s.withPriv p).memWrite a v = (s.memWrite a v).map fun t => t.withPriv q := by
  rw [State.memWrite, State.memWrite, State.withPriv_cfg]
  cases s.cfg.regAt a with
  | none => exact ⟨p, rfl⟩
  | some r =>
    obtain ⟨q, hq⟩ := (s.log ⟨.wr, a, v⟩).targetWrite_withPriv p r v
    exact ⟨q, congrArg some hq⟩

/-- A `MemRead` elsewhere than at ITM_PRIV answers the same value. -/
theorem State.memRead_withPriv {a : Word} (ha : s.cfg.regAt a ≠ some (.storage .itmPriv)) :
    (s.withPriv p).memRead a = (s.memRead a).map fun x => (x.1, x.2.withPriv p) := by
  rw [State.memRead, State.memRead, State.withPriv_cfg]
  cases hr : s.cfg.regAt a with
  | none => rfl
  | some r =>
    cases r with
    | storage r =>
      have hne : r ≠ .itmPriv := fun e => ha (by rw [hr, e])
      simp only [State.targetRead, State.get_withPriv_ne s p hne]
      rfl
    | unlock | port => rfl

/-! ## The classes of micro-operation (R124) -/

theorem State.writeThen_withPriv (s : State) (p a v : Word) (n : BitVec 5) :
    SameButPriv (s.writeThen a v n) ((s.withPriv p).writeThen a v n) := by
  obtain ⟨q, hq⟩ := s.memWrite_withPriv p a v
  rw [State.writeThen, State.writeThen, hq]
  cases s.memWrite a v with
  | none => exact .refl _
  | some t => exact .next (t.setSeq n) q

theorem State.push_withPriv (s : State) (p : Word) : SameButPriv s.push (s.withPriv p).push := by
  obtain ⟨q, hq⟩ := s.memWrite_withPriv p (s.cfg.stimAddr s.ch) (wordAt s.buf s.len s.idx)
  rw [State.push, State.push, State.withPriv_cfg, State.withPriv_ch, State.withPriv_buf, State.withPriv_len,
    State.withPriv_idx, hq]
  cases s.memWrite (s.cfg.stimAddr s.ch) (wordAt s.buf s.len s.idx) with
  | none => exact .refl _
  | some t => exact .next _ q

theorem State.poll_withPriv (hc : s.cfg.ok = true) (hch : s.ch.toNat < s.cfg.nChannels) :
    SameButPriv s.poll (s.withPriv p).poll := by
  have hport : s.cfg.regAt (s.cfg.stimAddr s.ch) = some (.port s.ch) := Cfg.regAt_addrOf hc (.port s.ch) hch
  rw [State.poll, State.poll, State.withPriv_cfg, State.withPriv_ch, State.memRead_withPriv (by simp [hport])]
  cases s.memRead (s.cfg.stimAddr s.ch) with
  | none => exact .refl _
  | some x => exact .next _ p

theorem State.modifyThen_withPriv (hc : s.cfg.ok = true) {r : StorageReg} (hr : r ≠ .itmPriv) (f : Word → Word)
    (n : BitVec 5) :
    SameButPriv (s.modifyThen (s.cfg.addrOf (.storage r)) f n)
      ((s.withPriv p).modifyThen (s.cfg.addrOf (.storage r)) f n) := by
  have hreg := Cfg.regAt_addrOf hc (.storage r) trivial
  rw [State.modifyThen, State.modifyThen, State.memRead_withPriv (by simp [hreg, hr])]
  cases s.memRead (s.cfg.addrOf (.storage r)) with
  | none => exact .refl _
  | some x => exact x.2.writeThen_withPriv p _ _ n

/-! ## The operations -/

theorem State.acquire_withPriv (s : State) (p : Word) : SameButPriv s.acquire (s.withPriv p).acquire := by
  rw [State.acquire_eq, State.acquire_eq, State.withPriv_owned]
  cases s.owned
  · exact .next s.grant p
  · exact .next (s.raise ownershipTaken) p

theorem State.acceptBringup_withPriv (s : State) (p f : Word) :
    SameButPriv (s.acceptBringup f) ((s.withPriv p).acceptBringup f) := by
  rw [State.acceptBringup, State.acceptBringup, State.withPriv_cfg, State.withPriv_owned]
  split
  · exact .refl _
  · split
    · exact .refl _
    · exact .next _ p

theorem State.acceptWrite_withPriv (s : State) (p : Word) (ch : Chan) (bytes : List Byte) :
    SameButPriv (s.acceptWrite ch bytes) ((s.withPriv p).acceptWrite ch bytes) := by
  rw [State.acceptWrite, State.acceptWrite, State.withPriv_cfg, State.withPriv_owned, State.withPriv_channelEnabled]
  split
  · exact .refl _
  · split
    · exact .refl _
    · split
      · split
        · exact .next _ p
        · exact .refl _
      · exact .next _ p

/-- Each phase of the driver presents one command, or counts. -/
theorem execDrvInit_withPriv (s : State) (p : Word) : SameButPriv (exec .drvInit s) (exec .drvInit (s.withPriv p)) := by
  obtain hph | hph := BitVec.eq_zero_or_eq_one s.dphase
  · rw [exec_drvInit_acquire hph, exec_drvInit_acquire (s := s.withPriv p) hph, State.withPriv_owned]
    split
    · exact .next (s.raise ownershipTaken) p
    · exact .next (s.grant.setDriver s.dstate 1#1) p
  · rw [exec_drvInit_bringup hph, exec_drvInit_bringup (s := s.withPriv p) hph]
    exact (s.acceptBringup_withPriv p _).onNext fun _ _ => rfl

theorem execDrvRun_withPriv (s : State) (p : Word) : SameButPriv (exec .drvRun s) (exec .drvRun (s.withPriv p)) := by
  obtain hph | hph := BitVec.eq_zero_or_eq_one s.dphase
  · rw [exec_drvRun_present hph, exec_drvRun_present (s := s.withPriv p) hph]
    exact (s.acceptWrite_withPriv p _ _).onNext fun _ _ => rfl
  · rw [exec_drvRun_count hph, exec_drvRun_count (s := s.withPriv p) hph]
    exact .next ((s.setCnt (nextCount s.cnt)).setDriver s.dstate 0#1) p

/-- No operation reads ITM_PRIV: the read-modify-write rows are those of DBGEN, FMT_FRAME and DBGCTL (R123), BU10 overwrites it
with a constant, and the writer's accesses are at its port. -/
theorem exec_withPriv (hc : s.cfg.ok = true) (hch : s.ch.toNat < s.cfg.nChannels) (i : Instr) :
    SameButPriv (exec i s) (exec i (s.withPriv p)) := by
  cases i
  case none => exact .next s p
  case acquire => exact s.acquire_withPriv p
  case bringup => exact s.acceptBringup_withPriv p _
  case write => exact s.acceptWrite_withPriv p _ _
  case drvInit => exact execDrvInit_withPriv s p
  case drvRun => exact execDrvRun_withPriv s p
  case bu01 => exact State.modifyThen_withPriv hc (r := .dbgen) StorageReg.noConfusion _ _
  case bu06 => exact State.modifyThen_withPriv hc (r := .fmtFrame) StorageReg.noConfusion _ _
  case bu13 | bu14 => exact State.modifyThen_withPriv hc (r := .dbgctl) StorageReg.noConfusion _ _
  case bu02 | bu03 | bu04 | bu05 | bu07 | bu08 | bu09 | bu10 | bu11 | bu12 => exact s.writeThen_withPriv p _ _ _
  case wrPoll => exact State.poll_withPriv hc hch
  case wrPush => exact s.push_withPriv p

/-! ## The environment and the step -/

theorem State.nextChoice_withPriv (s : State) (p : Word) :
    (s.withPriv p).nextChoice = (s.nextChoice.1, s.nextChoice.2.withPriv p) := by
  have henv : (s.withPriv p).env = s.env := rfl
  rw [State.nextChoice, State.nextChoice, henv]
  cases s.env <;> rfl

theorem State.fetchCommand_withPriv (s : State) (p : Word) :
    (s.withPriv p).fetchCommand = (s.fetchCommand.1, s.fetchCommand.2.withPriv p) := by
  have hsource : (s.withPriv p).source = s.source := rfl
  rw [State.fetchCommand, State.fetchCommand, hsource]
  obtain - | (- | _) := s.source <;> rfl

theorem State.drain_withPriv (s : State) (p : Word) (ch : Chan) : (s.withPriv p).drain ch = (s.drain ch).withPriv p := by
  rw [State.drain, State.drain, State.withPriv_fifoAt]
  cases s.fifoAt ch <;> rfl

/-- A reset leaves nothing of the registers. -/
theorem State.externalReset_withPriv (s : State) (p : Word) : (s.withPriv p).externalReset = s.externalReset := rfl

/-- SEQ holds one of the eighteen named codes (R22, R123). -/
theorem State.Inv.seq_cases (h : s.Inv) : s.seq = Seq.idle ∨ s.seq = Seq.halt ∨ ∃ i, decodeUop s.seq = .ok i := by
  obtain hs | hs := List.mem_append.mp h.seqLegal
  · exact (List.mem_pair.mp hs).imp_right .inl
  · obtain ⟨⟨q, i⟩, hrow, hq⟩ := List.mem_map.mp hs
    exact .inr (.inr ⟨i, hq ▸ decodeUop_of_mem hrow⟩)

/-- The machine's move: the operation, the command or the stop is the same, and runs in states that differ in ITM_PRIV. -/
theorem State.Inv.move_withPriv (h : s.Inv) (hp : s.nextChoice.1 = .proceed) :
    SameButPriv (Machine.step s) (Machine.step (s.withPriv p)) := by
  have hc := h.cfgOk
  have hp' : (s.withPriv p).nextChoice.1 = .proceed := by rwa [State.nextChoice_withPriv]
  have hch : s.nextChoice.2.ch.toNat < s.nextChoice.2.cfg.nChannels := by simpa using h.writeSound.1
  obtain hs | hs | ⟨i, hi⟩ := h.seq_cases
  · have hf := h.fault_eq_false (by simp [hs])
    rw [step_of_idle hc hp hs hf, step_of_idle (s := s.withPriv p) hc hp' hs hf, State.nextChoice_withPriv,
      State.fetchCommand_withPriv]
    exact exec_withPriv (by simpa using hc) (by simpa using hch) _
  · rw [step_of_halt hc hp hs, step_of_halt (s := s.withPriv p) hc hp' hs]
    exact .refl _
  · rw [step_of_code hc hp hi, step_of_code (s := s.withPriv p) hc hp' hi, State.nextChoice_withPriv]
    exact exec_withPriv (by simpa using hc) hch i

/-- One step, whoever moves. -/
theorem State.Inv.step_withPriv (h : s.Inv) (p : Word) : SameButPriv (Machine.step s) (Machine.step (s.withPriv p)) := by
  have hn := s.nextChoice_withPriv p
  cases he : s.nextChoice.1 with
  | proceed => exact h.move_withPriv he
  | drain ch =>
    rw [he] at hn
    rw [step_drain h.cfgOk (Prod.ext he rfl), step_drain (s := s.withPriv p) h.cfgOk hn, State.drain_withPriv]
    exact .next _ p
  | reset =>
    rw [he] at hn
    rw [step_reset h.cfgOk (Prod.ext he rfl), step_reset (s := s.withPriv p) h.cfgOk hn, State.externalReset_withPriv]
    exact .refl _

end Machine

open Machine

/-! ## The obligation -/

/-- Settles O55: the two steps have outcomes that differ at most in ITM_PRIV, and here that register is overwritten in both. -/
theorem privilegeRegisterIsNeverConsulted : Obligations.PrivilegeRegisterIsNeverConsulted :=
  fun _ v h => (h.step_withPriv v).withPriv_eq 0#32

end Sys2Proof
end

section
/-! PROOFS. The family on reset: the queues the external reset leaves, and the values it gives controller and driver in any
state (R260, R261). -/

namespace Sys2Proof

namespace Machine

/-- The external reset keeps R54's bound on channels that exist; those the configuration lacks have empty queues below it. -/
theorem State.externalReset_fifo_le_depth (s : State) (ch : Chan) :
    (s.externalReset.fifoAt ch).length ≤ s.cfg.fifoDepth := by
  have hbound : (s.externalReset.fifoAt ch).length ≤ if ch.toNat < s.cfg.nChannels then s.cfg.fifoDepth else 0 :=
    relaunchFifo_bound s.cfg _ ch
  split at hbound
  · exact hbound
  · exact hbound.trans (Nat.zero_le _)

end Machine

open Machine

/-! ## The obligation -/

/-- Settles O10: the step is the external reset of the state in which the choice is made. Controller and driver are a launch
state's there, making the choice leaves the configuration and the inputs alone, and the queues are cut to their depth. -/
theorem externalResetGivesTheResetValues : Obligations.ExternalResetGivesTheResetValues := by
  intro s hok hreset
  have hstep : step s = .next s.nextChoice.2.externalReset := step_reset hok (Prod.ext hreset rfl)
  refine ⟨_, hstep, rfl, rfl, rfl, rfl, rfl, rfl, rfl, rfl, rfl, rfl, rfl, ?cfg, ?clockHzIn, ?source, ?fifo⟩
  case cfg => exact s.nextChoice_cfg
  case clockHzIn => exact s.nextChoice_clockHzIn
  case source => exact s.nextChoice_source
  case fifo =>
    intro ch
    simpa using s.nextChoice.2.externalReset_fifo_le_depth ch

end Sys2Proof
end
